-- ==== Sys2Proof/Word.lean ====
section
/-! DEFINITION. The value types that travel through FANTASIA-OOK-TX: completion tags, error
information, words of bits and the four dip-switch positions. -/

namespace Sys2Proof

/-- The completion handle of a request. 00_scope.md R6 leaves the type OPEN ("any type with decidable
equality; the block never inspects a tag"). DESIGN CHOICE (log entry 1): the natural numbers. -/
abbrev Tag := Nat

/-- What a TransmitError carries: "a human-readable message ... and elapsed latency" (00_scope.md R6,
43_boundary.md R136). The type is OPEN; DESIGN CHOICE (log entry 2): the record of those two. -/
structure ErrInfo where
  message : String
  latency : Nat
deriving DecidableEq, Repr

/-- A word of bits, index 0 first (20_memory.md R35 item 1). A BitWord of the block has 12 bits
(40_bit_encoder.md R76); FRAME and TENC are given for any length of at least one. -/
abbrev BitWord := List Bool

/-- An Address: `ADDR_LEN` = 4 dip-switch positions, `ADDR[0]` to `ADDR[3]` (10_state.md R14). -/
structure Address where
  a0 : Bool
  a1 : Bool
  a2 : Bool
  a3 : Bool
deriving DecidableEq, Repr

end Sys2Proof
end

