-- ==== Sys2Proof/Syntax.lean ====
section
/-! DEFINITION. The input events of the block: one constructor for each row of the opcode table
(10_state.md R31, 30_encoding.md R59). -/

namespace Sys2Proof

/-- The values of FanState.speed (10_state.md R16). -/
inductive Level where
  | off
  | low
  | medium
  | high
deriving DecidableEq, Repr

/-- An operation of the block that arrives from outside (00_scope.md R7). `EXPIRE` has no constructor:
it is the second half of the `TICK` that ends the delay (42_scheduler.md R111). -/
inductive Instr where
  /-- `SETPWR on #tag` (42_scheduler.md R107). -/
  | setpwr (on : Bool) (tag : Tag)
  /-- `SETSPD lvl #tag` (42_scheduler.md R108). -/
  | setspd (lvl : Level) (tag : Tag)
  /-- A reserved REQ word with the tag that came beside it (30_encoding.md R60). -/
  | badcmd (word : BitVec 3) (tag : Tag)
  /-- `TICK` (42_scheduler.md R110). -/
  | tick
  /-- `TXDONE OK` (42_scheduler.md R113). -/
  | txdoneOk
  /-- `TXDONE ERR(info)` (42_scheduler.md R113). -/
  | txdoneErr (info : ErrInfo)
  /-- `RESET` with the Address taken from `cfg_addr`, element 0 first (70_reset_and_hazards.md R167).
  The operand is a sequence of any length, so that a malformed Address can be written down and
  rejected (60_exceptions.md R142). -/
  | reset (cfgAddr : List Bool)
deriving DecidableEq, Repr

end Sys2Proof
end

