-- ==== Sys2Proof/Config.lean ====
section
/-! DEFINITION. The parameters of an instance (00_scope.md R6) and the free values the spec leaves open. -/

namespace Sys2Proof

/-- `ADDR_LEN`, the number of dip-switch positions (00_scope.md R6). -/
def addrLen : Nat := 4

/-- `BTN_BITS`, the width of the button-select field (00_scope.md R6). -/
def btnBits : Nat := 8

/-- `WORD_LEN = BTN_BITS + ADDR_LEN` (00_scope.md R6, 40_bit_encoder.md R76). -/
def wordLen : Nat := btnBits + addrLen

/-- The configuration record of 10_state.md R31, fixed for the life of an instance (R21). -/
structure Config where
  /-- `T`, microseconds. -/
  t : Nat
  /-- `REPEAT`. -/
  repeatCount : Nat
  /-- `DEBOUNCE_TICKS`. -/
  debounceTicks : Nat
  /-- `RESET_POWERED`. -/
  resetPowered : Bool
  /-- `RESET_SPEED`. -/
  resetSpeed : Level
deriving DecidableEq, Repr

/-- What the spec asks of a configuration: `T`, `REPEAT` and `DEBOUNCE_TICKS` are each at least 1
(00_scope.md R6, 92_eei_decisions.md D7 and D32). -/
abbrev Config.Valid (c : Config) : Prop :=
  1 ≤ c.t ∧ 1 ≤ c.repeatCount ∧ 1 ≤ c.debounceTicks

/-- FREE VALUE (log entry 4): the spec gives no length of the debounce delay. No proof can see it. -/
opaque Config.debounceExtra : Nat

/-- FREE VALUE (log entry 20): the message of a failed reply that carries none (91_not_in_source.md N10). -/
opaque Config.absentMessage : String

/-- The configuration of `State.reset`: the reference `T` and `REPEAT` of 00_scope.md R6; a free
`DEBOUNCE_TICKS` that is at least 1 (log entry 4); DESIGN CHOICE (log entry 5): the pair (false, OFF)
for the reset FanState, which the spec leaves OPEN. -/
def Config.reference : Config where
  t := 225
  repeatCount := 5
  debounceTicks := Config.debounceExtra + 1
  resetPowered := false
  resetSpeed := .off

end Sys2Proof
end

