-- ==== Sys2Proof/WellFormed.lean ====
section
/-! DEFINITION. Which terms of `Instr` an environment can present on the ports. -/

namespace Sys2Proof

/-- A word that format C reserves: `010` or `011` (30_encoding.md R60). -/
def isReservedWord (word : BitVec 3) : Bool :=
  word == 0b010#3 || word == 0b011#3

/-- A `badcmd` holds a reserved word (30_encoding.md R60); the Address of a `reset` has `ADDR_LEN`
elements (70_reset_and_hazards.md R170, 60_exceptions.md R142). Every other event is well formed. -/
def Instr.wellFormed : Instr → Bool
  | .setpwr _ _ => true
  | .setspd _ _ => true
  | .badcmd word _ => isReservedWord word
  | .tick => true
  | .txdoneOk => true
  | .txdoneErr _ => true
  | .reset cfgAddr => cfgAddr.length == addrLen

end Sys2Proof
end

