-- ==== Sys2Proof/Decode.lean ====
section
/-! DEFINITION. The ports' input words, the decoder from a port word to an event, and the encoder back
(30_encoding.md). "A decoder takes the port the word arrived on as the format, then matches the word
against the rows of that format" (R59). -/

namespace Sys2Proof

/-- One word on an input port together with the side-band values that travel with it (30_encoding.md
R49, R50). A `req` or `txr` word stands for a presentation with `req_valid` or `txr_valid` at 1. -/
inductive PortWord where
  /-- Format C on REQ: `req_cmd` and `req_tag`. -/
  | req (cmd : BitVec 3) (tag : Tag)
  /-- Format K on TICK. -/
  | tick (word : BitVec 1)
  /-- Format S on TXR: `txr_fail` and `txr_info`. -/
  | txr (fail : BitVec 1) (info : ErrInfo)
  /-- Format R on RST, with the static input `cfg_addr`, whose bit `i` is `ADDR[i]`. -/
  | rst (word : BitVec 1) (cfgAddr : BitVec 4)
deriving DecidableEq, Repr

/-- Why a word selects no operation. In formats K and R "the word `0` means that no event is presented"
(30_encoding.md R55, R59); no other word is rejected. -/
inductive DecodeReject where
  /-- `tick = 0`. -/
  | noTick
  /-- `rst = 0`. -/
  | noReset
deriving DecidableEq, Repr

/-- The 2-bit code of a Level (30_encoding.md R53). -/
def levelCode : Level → BitVec 2
  | .off => 0b00#2
  | .low => 0b01#2
  | .medium => 0b10#2
  | .high => 0b11#2

/-- The Level whose code is given; all four codes are Levels (30_encoding.md R58). -/
def levelOfCode (code : BitVec 2) : Level :=
  if code = 0b00#2 then .off
  else if code = 0b01#2 then .low
  else if code = 0b10#2 then .medium
  else .high

/-- `a[i] = cfg_addr[i]` for `i` from 0 to 3 (30_encoding.md R58). -/
def cfgAddrBits (cfgAddr : BitVec 4) : List Bool :=
  [cfgAddr.getLsbD 0, cfgAddr.getLsbD 1, cfgAddr.getLsbD 2, cfgAddr.getLsbD 3]

/-- The `cfg_addr` wires that present an Address: bit `i` is element `i` (30_encoding.md R50). -/
def cfgAddrWord (bits : List Bool) : BitVec 4 :=
  BitVec.ofBool (bits.getD 3 false) ++ BitVec.ofBool (bits.getD 2 false)
    ++ BitVec.ofBool (bits.getD 1 false) ++ BitVec.ofBool (bits.getD 0 false)

/-- Format C (30_encoding.md R51, R58, R60): bit 2 is `op`, bits 1:0 are `arg`. -/
def decodeCommand (cmd : BitVec 3) (tag : Tag) : Instr :=
  if cmd.getLsbD 2 then .setspd (levelOfCode (cmd.extractLsb' 0 2)) tag
  else if cmd.getLsbD 1 then .badcmd cmd tag
  else .setpwr (cmd.getLsbD 0) tag

/-- The decoder, total on every word of every input port (30_encoding.md R55, R58, R59). -/
def decode : PortWord → Except DecodeReject Instr
  | .req cmd tag => .ok (decodeCommand cmd tag)
  | .tick word => if word = 1#1 then .ok .tick else .error .noTick
  | .txr fail info => if fail = 1#1 then .ok (.txdoneErr info) else .ok .txdoneOk
  | .rst word cfgAddr =>
    if word = 1#1 then .ok (.reset (cfgAddrBits cfgAddr)) else .error .noReset

/-- What stands on `txr_info` where it is ignored (30_encoding.md R50: "ignored when `txr_fail = 0`"). -/
def ignoredInfo : ErrInfo := { message := "", latency := 0 }

/-- The encoder: the port word that presents an event (30_encoding.md R51, R53, R55, R58). -/
def encode : Instr → PortWord
  | .setpwr on tag => .req (0b00#2 ++ BitVec.ofBool on) tag
  | .setspd lvl tag => .req (0b1#1 ++ levelCode lvl) tag
  | .badcmd word tag => .req word tag
  | .tick => .tick 1#1
  | .txdoneOk => .txr 0#1 ignoredInfo
  | .txdoneErr info => .txr 1#1 info
  | .reset cfgAddr => .rst 1#1 (cfgAddrWord cfgAddr)

/-- A port word with every bit that the decoder ignores put to one fixed value: `txr_info` where
`txr_fail = 0` (30_encoding.md R50). -/
def canonicalWord : PortWord → PortWord
  | .req cmd tag => .req cmd tag
  | .tick word => .tick word
  | .txr fail info => .txr fail (if fail = 1#1 then info else ignoredInfo)
  | .rst word cfgAddr => .rst word cfgAddr

/-- The port word that the bits of an opcode-table row stand for when nothing says which port they came
on. DESIGN CHOICE (log entry 13): the table gives rows of different ports the same bits, and a number
alone has no port, so bits of at least format C's width are read as a REQ word; a shorter number is
read as a TXR word if 0 and as a TICK word if 1. The side-band values are 0 and empty. -/
def tableWord (nbits w : Nat) : Option PortWord :=
  if 3 ≤ nbits then
    if w < 8 then some (.req (BitVec.ofNat 3 w) 0) else none
  else if w = 0 then some (.txr 0#1 ignoredInfo)
  else if w = 1 then some (.tick 1#1)
  else none

/-- The instruction the decoder reads from the bits of an opcode-table row (log entry 13). -/
def decodeTableWord (nbits w : Nat) : Option Instr :=
  match tableWord nbits w with
  | none => none
  | some word =>
    match decode word with
    | .ok i => some i
    | .error _ => none

end Sys2Proof
end

