-- ==== Sys2Proof/Machine/State.lean ====
section
/-! DEFINITION. The state of one FANTASIA-OOK-TX instance as plain data, its output events, the reasons
a step can stop, and the state after reset (10_state.md). -/

namespace Sys2Proof.Machine

/-- The three values of `ST` (10_state.md R17). -/
inductive Sched where
  | idle
  | debouncing
  | transmitting
deriving DecidableEq, Repr

/-- The outcome of a transmission: "success or a failure reason" (00_scope.md R12 `outcome`). -/
inductive TxOutcome where
  | ok
  | err (info : ErrInfo)
deriving DecidableEq, Repr

/-- The output events (00_scope.md R7, 10_state.md R31). -/
inductive OutEvent where
  /-- `TXSTART seq` (42_scheduler.md R112). -/
  | txstart (seq : List Nat)
  /-- `RESOLVE tag out` (42_scheduler.md R114). -/
  | resolve (tag : Tag) (out : TxOutcome)
deriving DecidableEq, Repr

/-- No operation of the block stops it: X2, X3 and X4 leave it running (60_exceptions.md R153, R154) and
X1 is no event of a run (R142). So no fault exists. -/
inductive Fault where
deriving DecidableEq, Repr

/-- Why the model makes no claim. -/
inductive Refusal where
  /-- Raised by `exec` for an instruction that has no meaning yet; safe. No arm answers it. -/
  | notModelled (mnemonic : String)
  /-- X1 `EncodingPrecondition` (60_exceptions.md R142): an instance is asked for with an Address that
  has not `ADDR_LEN` elements ("reject construction"), or an encoder is called outside its domain.
  Raised by `RESET` with a malformed Address, which no port word decodes to; safe. -/
  | encodingPrecondition
deriving DecidableEq, Repr

/-- The seven elements of 10_state.md R13, and three fields of the model: the parameters `cfg`, the
words presented and not yet taken `inputs` (log entry 6), the events emitted so far `outs` (log
entry 7). -/
structure State where
  /-- `ADDR` (R14). -/
  addr : Address
  /-- `POWERED` (R15). -/
  powered : Bool
  /-- `SPEED` (R16). -/
  speed : Level
  /-- `ST` (R17). -/
  st : Sched
  /-- `DTIMER` (R18). -/
  dtimer : Nat
  /-- `QUEUE` (R19), oldest request first. -/
  queue : List Tag
  /-- `BATCH` (R20), oldest request first. -/
  batch : List Tag
  /-- The parameters (R21, R31); no operation writes them. -/
  cfg : Config
  /-- Port words presented by the environment and not yet taken, next one first. -/
  inputs : List PortWord
  /-- Output events emitted so far, oldest first. -/
  outs : List OutEvent
deriving DecidableEq, Repr

/-- The state after `RESET` of an instance with configuration `c` and Address `a`
(10_state.md R28, 70_reset_and_hazards.md R167), with nothing presented and nothing emitted. -/
def State.resetWith (c : Config) (a : Address) : State where
  addr := a
  powered := c.resetPowered
  speed := c.resetSpeed
  st := .idle
  dtimer := 0
  queue := []
  batch := []
  cfg := c
  inputs := []
  outs := []

/-- The machine right after reset: `cfg_addr` at its documented default (43_boundary.md R138), the
configuration `Config.reference` (log entries 4 and 5). -/
def State.reset : State :=
  State.resetWith Config.reference { a0 := false, a1 := false, a2 := false, a3 := false }

end Sys2Proof.Machine
end

