-- ==== Sys2Proof/Machine/Operands.lean ====
section
/-! DEFINITION. Operands of the operations as the state holds them (30_encoding.md R58). The bits of a
port word are taken apart in Sys2Proof/Decode.lean; what is left here is the Address. -/

namespace Sys2Proof.Machine

/-- The elements of an Address in order, `ADDR[0]` first (20_memory.md R35 item 1). -/
def addressBits (a : Address) : List Bool := [a.a0, a.a1, a.a2, a.a3]

/-- The construction-time check of an Address: a sequence of exactly `ADDR_LEN` booleans, element `i`
becoming `ADDR[i]`; anything else is X1 (60_exceptions.md R142, 70_reset_and_hazards.md R170). -/
def addressOf : List Bool → Option Address
  | [b0, b1, b2, b3] => some { a0 := b0, a1 := b1, a2 := b2, a3 := b3 }
  | _ => none

end Sys2Proof.Machine
end

