-- ==== Sys2Proof/Machine/BitEncoder.lean ====
section
/-! DEFINITION. The Bit Sequence Encoder and the choice of Button (40_bit_encoder.md). -/

namespace Sys2Proof.Machine

/-- The closed type of the seven Buttons (40_bit_encoder.md R73, R78). -/
inductive Button where
  | low
  | light
  | dim
  | medium
  | high
  | off
  | reverse
deriving DecidableEq, Repr

/-- `PIN(b)` (40_bit_encoder.md R73). Index 6 is reserved. -/
def pin : Button → Nat
  | .low => 0
  | .light => 1
  | .dim => 2
  | .medium => 3
  | .high => 4
  | .off => 5
  | .reverse => 7

/-- The Button with a pin index: none for 6 and for anything above 7 (40_bit_encoder.md R73, R78). -/
def buttonOfPin : Nat → Option Button
  | 0 => some .low
  | 1 => some .light
  | 2 => some .dim
  | 3 => some .medium
  | 4 => some .high
  | 5 => some .off
  | 7 => some .reverse
  | _ => none

/-- `ONEHOT(b)` (40_bit_encoder.md R74). -/
def oneHot (b : Button) : BitWord :=
  (List.range btnBits).map (fun i => decide (i = pin b))

/-- `BENC(b, a) = ONEHOT(b) ++ a` for an Address of any length (40_bit_encoder.md R77). -/
def bencBits (b : Button) (a : List Bool) : BitWord := oneHot b ++ a

/-- `BENC(b, a)` for the block's Address (40_bit_encoder.md R77). -/
def benc (b : Button) (a : Address) : BitWord := bencBits b (addressBits a)

/-- The numeric form of `BENC`, which "must refuse index 6" and every index that is no Button's
(40_bit_encoder.md R78, 60_exceptions.md R142). -/
def bencPin (index : Nat) (a : Address) : Except Refusal BitWord :=
  match buttonOfPin index with
  | some b => .ok (benc b a)
  | none => .error .encodingPrecondition

/-- `BTN(l)` (40_bit_encoder.md R79). -/
def btn : Level → Button
  | .off => .off
  | .low => .low
  | .medium => .medium
  | .high => .high

/-- `TARGET(p, s)` (40_bit_encoder.md R80). -/
def target (powered : Bool) (speed : Level) : Button :=
  if powered then btn speed else .off

/-- The Button that a BitWord selects: the index of the single 1 among bits 0 to 7
(41_timing_encoder.md R99). -/
def buttonOfWord (w : BitWord) : Option Button := buttonOfPin (w.idxOf true)

/-- The Address that a BitWord carries: bits 8 to 11 (41_timing_encoder.md R99). -/
def addressOfWord (w : BitWord) : Option Address := addressOf (w.drop btnBits)

end Sys2Proof.Machine
end

