-- ==== Sys2Proof/Machine/TimingEncoder.lean ====
section
/-! DEFINITION. The Timing Encoder: bits to durations, marks and spaces, time on air and the raw-code
text (41_timing_encoder.md). A duration is a natural number of microseconds, never wrapped (R97). -/

namespace Sys2Proof.Machine

/-- `SYNC_MULT` (00_scope.md R6). -/
def syncMult : Nat := 1

/-- `SHORT_MULT` (00_scope.md R6). -/
def shortMult : Nat := 1

/-- `LONG_MULT` (00_scope.md R6). -/
def longMult : Nat := 2

/-- `PILOT_MULT` (00_scope.md R6). -/
def pilotMult : Nat := 20

/-- `SYNC = SYNC_MULT * T` (41_timing_encoder.md R85, R88). -/
def syncDur (c : Config) : Nat := syncMult * c.t

/-- `SHORT = SHORT_MULT * T` (41_timing_encoder.md R85). -/
def shortDur (c : Config) : Nat := shortMult * c.t

/-- `LONG = LONG_MULT * T` (41_timing_encoder.md R85). -/
def longDur (c : Config) : Nat := longMult * c.t

/-- `PILOT = PILOT_MULT * T` (41_timing_encoder.md R85, R88). -/
def pilotDur (c : Config) : Nat := pilotMult * c.t

/-- `SYM(bit)`: long-short for a 1, short-long for a 0 (41_timing_encoder.md R87). -/
def sym (c : Config) (bit : Bool) : List Nat :=
  if bit then [longDur c, shortDur c] else [shortDur c, longDur c]

/-- `FRAME(w) = [T] ++ SYM(w[0]) ++ ... ++ [20T]` for a word of at least one bit
(41_timing_encoder.md R89); the empty word has no value (R98). -/
def frame (c : Config) : BitWord → Option (List Nat)
  | [] => none
  | b :: bs => some ([syncDur c] ++ (b :: bs).flatMap (sym c) ++ [pilotDur c])

/-- `rep(n, s)` (00_scope.md R11). -/
def rep (n : Nat) (s : List Nat) : List Nat := (List.replicate n s).flatten

/-- `TENC(w) = rep(REPEAT, FRAME(w))` (41_timing_encoder.md R91); no value for the empty word (R98). -/
def tenc (c : Config) (w : BitWord) : Option (List Nat) :=
  match frame c w with
  | some f => some (rep c.repeatCount f)
  | none => none

/-- The number of durations in one frame of an `n`-bit word (41_timing_encoder.md R92). -/
def frameLen (n : Nat) : Nat := 1 + 2 * n + 1

/-- The transmission the block sends for a FanState and an Address:
`TENC(BENC(TARGET(p, s), a))` (40_bit_encoder.md R81, 42_scheduler.md R112). -/
def transmission (c : Config) (powered : Bool) (speed : Level) (a : Address) :
    Option (List Nat) :=
  tenc c (benc (target powered speed) a)

/-- Whether element `k` of a TimingSequence is a mark, carrier on (41_timing_encoder.md R95). DEDUCED by
the spec itself (log entry 18). -/
def isMark (k : Nat) : Bool := k % 2 == 0

/-- The time a sequence takes on air, in microseconds (41_timing_encoder.md R96). -/
def airTime (seq : List Nat) : Nat := seq.sum

/-- The time of the marks and of the spaces of a sequence whose first element is a mark if `mark`
(41_timing_encoder.md R95, R96). -/
def markSpaceTime (mark : Bool) : List Nat → Nat × Nat
  | [] => (0, 0)
  | d :: ds =>
    let rest := markSpaceTime (!mark) ds
    if mark then (d + rest.1, rest.2) else (rest.1, d + rest.2)

/-- The bits that a sequence's first frame encodes for an `n`-bit word: bit `i` is 1 exactly when element
`1 + 2i` is `2T` (41_timing_encoder.md R99). -/
def wordOfSeq (c : Config) (n : Nat) (seq : List Nat) : BitWord :=
  (List.range n).map (fun i => decide (seq[1 + 2 * i]? = some (longDur c)))

/-- The Button that a `TXSTART` sequence was computed from (41_timing_encoder.md R99). -/
def buttonOfSeq (c : Config) (seq : List Nat) : Option Button :=
  buttonOfWord (wordOfSeq c wordLen seq)

/-- The Address that a `TXSTART` sequence was computed from (41_timing_encoder.md R99). -/
def addressOfSeq (c : Config) (seq : List Nat) : Option Address :=
  addressOfWord (wordOfSeq c wordLen seq)

/-- The decimal digits of `n`, most significant first, with fuel for the number of digits. -/
def decimalAux : Nat → Nat → List Char → List Char
  | 0, _, acc => acc
  | fuel + 1, n, acc =>
    let acc' := Char.ofNat (48 + n % 10) :: acc
    if n < 10 then acc' else decimalAux fuel (n / 10) acc'

/-- The decimal numeral of `n`: no sign, no leading zeros (41_timing_encoder.md R100). -/
def decimal (n : Nat) : List Char := decimalAux (n + 1) n []

/-- The characters of `RAWCODE(seq)`: the numerals separated by single spaces, between two double-quote
characters (41_timing_encoder.md R100). -/
def rawCodeChars (seq : List Nat) : List Char :=
  [Char.ofNat 34] ++ List.intercalate [' '] (seq.map decimal) ++ [Char.ofNat 34]

/-- `RAWCODE(seq)` (41_timing_encoder.md R100). -/
def rawCode (seq : List Nat) : String := String.ofList (rawCodeChars seq)

end Sys2Proof.Machine
end

