-- ==== Sys2Proof/Machine/Ops.lean ====
section
/-! DEFINITION. The named operations over the state that the meanings share: the register updates, the
common part of a request, EXPIRE, the completion of a transmission, and taking an exception. -/

namespace Sys2Proof.Machine

/-! ### Updates -/

/-- `POWERED <- on`. -/
def setPowered (on : Bool) (s : State) : State := { s with powered := on }

/-- `SPEED <- lvl`. -/
def setSpeed (lvl : Level) (s : State) : State := { s with speed := lvl }

/-- `append(QUEUE, tag)` (42_scheduler.md R106). -/
def enqueue (tag : Tag) (s : State) : State := { s with queue := s.queue ++ [tag] }

/-- `DTIMER <- DEBOUNCE_TICKS; ST <- Debouncing`: entry to Debouncing (42_scheduler.md R106, R113). -/
def startTimer (s : State) : State :=
  { s with dtimer := s.cfg.debounceTicks, st := .debouncing }

/-- `DTIMER <- DTIMER - 1` (42_scheduler.md R110). -/
def countDown (s : State) : State := { s with dtimer := s.dtimer - 1 }

/-- `DTIMER <- 0; ST <- Transmitting; BATCH <- take_all(QUEUE)` (42_scheduler.md R111). -/
def snapshot (s : State) : State :=
  { s with dtimer := 0, st := .transmitting, batch := s.queue, queue := [] }

/-- `BATCH <- []` (42_scheduler.md R113). -/
def clearBatch (s : State) : State := { s with batch := [] }

/-- `ST <- Idle` (42_scheduler.md R113). -/
def goIdle (s : State) : State := { s with st := .idle }

/-- `emit`, for a list of output events in the order they are emitted (00_scope.md R11). -/
def emit (events : List OutEvent) (s : State) : State := { s with outs := s.outs ++ events }

/-- Every register at its reset value, with the Address `a` (70_reset_and_hazards.md R167). The
parameters, the words not yet taken and the record of outputs are not registers of the block and stay
(log entry 15). -/
def resetRegisters (a : Address) (s : State) : State :=
  { s with addr := a, powered := s.cfg.resetPowered, speed := s.cfg.resetSpeed,
           st := .idle, dtimer := 0, queue := [], batch := [] }

/-- The words still to be taken become `words`. -/
def setInputs (words : List PortWord) (s : State) : State := { s with inputs := words }

/-! ### Shared operations -/

/-- `REQ_COMMON(tag)` (42_scheduler.md R106). -/
def reqCommon (tag : Tag) (s : State) : State :=
  match s.st with
  | .idle => startTimer (enqueue tag s)
  | .debouncing => enqueue tag s
  | .transmitting => enqueue tag s

/-- The `RESOLVE` events of a batch, in the order of the batch, all with one outcome
(42_scheduler.md R114). -/
def resolveAll (batch : List Tag) (out : TxOutcome) : List OutEvent :=
  batch.map (fun tag => OutEvent.resolve tag out)

/-- The follow-up of a completed transmission: Debouncing with a fresh timer if requests wait, else Idle
(42_scheduler.md R113). -/
def followUp (s : State) : State :=
  match s.queue with
  | [] => goIdle s
  | _ :: _ => startTimer s

/-- The handling of a completion while Transmitting: resolve every tag of `BATCH` with `out`, clear
`BATCH`, go on (42_scheduler.md R113). -/
def complete (out : TxOutcome) (s : State) : State :=
  followUp (clearBatch (emit (resolveAll s.batch out) s))

/-- The four error causes X1 to X4 (60_exceptions.md R141). -/
inductive Cause where
  /-- X1. -/
  | encodingPrecondition
  /-- X2, with what the failure carries. -/
  | transmitError (info : ErrInfo)
  /-- X3. -/
  | illegalCommand
  /-- X4. -/
  | spuriousCompletion
deriving DecidableEq, Repr

/-- TAKING AN EXCEPTION. The block has no handler, no vector and no saved program counter; "it simply is
in its next state" (60_exceptions.md R153). X2 resolves the batch with the error and changes what success
changes (R143, R153); X3 and X4 save, change and report nothing (R144, R145, R154); X1 has no result
(R142). There is no return operation (R155). -/
def takeException (cause : Cause) (s : State) : Host.Outcome State Fault Refusal :=
  match cause with
  | .encodingPrecondition => .refused .encodingPrecondition
  | .transmitError info => .next (complete (.err info) s)
  | .illegalCommand => .next s
  | .spuriousCompletion => .next s

/-- `EXPIRE` (42_scheduler.md R111): snapshot the queue, compute the target from the current FanState and
emit `TXSTART`. The encoders' preconditions cannot fail here (R111); the match keeps X1 visible. -/
def expire (s : State) : Host.Outcome State Fault Refusal :=
  match transmission s.cfg s.powered s.speed s.addr with
  | some seq => .next (emit [OutEvent.txstart seq] (snapshot s))
  | none => takeException .encodingPrecondition s

end Sys2Proof.Machine
end

