-- ==== Sys2Proof/Machine/Scheduler.lean ====
section
/-! DEFINITION. The meanings of the Update Scheduler's input events (42_scheduler.md). -/

namespace Sys2Proof.Machine

/-- `SETPWR on #tag`: `POWERED <- on; REQ_COMMON(tag)` (42_scheduler.md R107). -/
def execSetpwr (on : Bool) (tag : Tag) (s : State) : Host.Outcome State Fault Refusal :=
  .next (reqCommon tag (setPowered on s))

/-- `SETSPD lvl #tag`: `SPEED <- lvl; REQ_COMMON(tag)` (42_scheduler.md R108). -/
def execSetspd (lvl : Level) (tag : Tag) (s : State) : Host.Outcome State Fault Refusal :=
  .next (reqCommon tag (setSpeed lvl s))

/-- `TICK` (42_scheduler.md R110). DESIGN CHOICE (log entry 11): `DTIMER = 0` in Debouncing, which no run
reaches, is taken like `DTIMER = 1`, as R110 allows. -/
def execTick (s : State) : Host.Outcome State Fault Refusal :=
  match s.st with
  | .debouncing => if 1 < s.dtimer then .next (countDown s) else expire s
  | .idle => .next s
  | .transmitting => .next s

/-- `TXDONE OK` (42_scheduler.md R113; outside Transmitting 60_exceptions.md R145). -/
def execTxdoneOk (s : State) : Host.Outcome State Fault Refusal :=
  match s.st with
  | .transmitting => .next (complete .ok s)
  | .idle => takeException .spuriousCompletion s
  | .debouncing => takeException .spuriousCompletion s

/-- `TXDONE ERR(info)` (42_scheduler.md R113, 60_exceptions.md R143; outside Transmitting R145). -/
def execTxdoneErr (info : ErrInfo) (s : State) : Host.Outcome State Fault Refusal :=
  match s.st with
  | .transmitting => takeException (.transmitError info) s
  | .idle => takeException .spuriousCompletion s
  | .debouncing => takeException .spuriousCompletion s

end Sys2Proof.Machine
end

