-- ==== Sys2Proof/Machine/System.lean ====
section
/-! DEFINITION. The meanings of the reserved command words and of RESET (30_encoding.md R60,
70_reset_and_hazards.md). -/

namespace Sys2Proof.Machine

/-- A reserved REQ word raises IllegalCommand and is dropped, its tag with it (30_encoding.md R60,
60_exceptions.md R144; log entry 9). -/
def execBadcmd (_word : BitVec 3) (_tag : Tag) (s : State) : Host.Outcome State Fault Refusal :=
  takeException .illegalCommand s

/-- `RESET` (70_reset_and_hazards.md R167). With a `cfg_addr` of the wrong length no instance is built:
EncodingPrecondition (60_exceptions.md R142). -/
def execReset (cfgAddr : List Bool) (s : State) : Host.Outcome State Fault Refusal :=
  match addressOf cfgAddr with
  | some a => .next (resetRegisters a s)
  | none => takeException .encodingPrecondition s

end Sys2Proof.Machine
end

