-- ==== Sys2Proof/Machine/Dispatch.lean ====
section
/-! DEFINITION. One arm per constructor of Instr. -/

namespace Sys2Proof.Machine

def exec (i : Instr) (s : State) : Host.Outcome State Fault Refusal :=
  match i with
  | .setpwr on tag => Sys2Proof.Machine.execSetpwr on tag s
  | .setspd lvl tag => Sys2Proof.Machine.execSetspd lvl tag s
  | .badcmd word tag => Sys2Proof.Machine.execBadcmd word tag s
  | .tick => Sys2Proof.Machine.execTick s
  | .txdoneOk => Sys2Proof.Machine.execTxdoneOk s
  | .txdoneErr info => Sys2Proof.Machine.execTxdoneErr info s
  | .reset cfgAddr => Sys2Proof.Machine.execReset cfgAddr s

end Sys2Proof.Machine
end

