-- ==== Sys2Proof/Machine/Ports.lean ====
section
/-! DEFINITION. The ports seen from the block: words presented together in one cycle and the order they
are taken in, fetching the next word, and the output word formats (30_encoding.md R50, R56, R57;
60_exceptions.md R151). -/

namespace Sys2Proof.Machine

/-- What a clocked realisation can find on the input ports in one cycle (30_encoding.md R50). -/
structure Cycle where
  rst : BitVec 1
  cfgAddr : BitVec 4
  reqValid : Bool
  reqCmd : BitVec 3
  reqTag : Tag
  txrValid : Bool
  txrFail : BitVec 1
  txrInfo : ErrInfo
  tick : BitVec 1
deriving DecidableEq, Repr

/-- The order in which one cycle's words are taken: `RESET` overrides and the others are ignored; else the
REQ word, then the TXR word, then `tick` (60_exceptions.md R151). -/
def cycleWords (c : Cycle) : List PortWord :=
  if c.rst = 1#1 then [.rst c.rst c.cfgAddr]
  else
    (if c.reqValid then [.req c.reqCmd c.reqTag] else [])
      ++ (if c.txrValid then [.txr c.txrFail c.txrInfo] else [])
      ++ (if c.tick = 1#1 then [.tick c.tick] else [])

/-- The environment presents one cycle's words, after those presented before. -/
def present (c : Cycle) (s : State) : State := setInputs (s.inputs ++ cycleWords c) s

/-- The next word presented, and the state once it is taken; none when nothing is presented. -/
def fetch (s : State) : Option (PortWord × State) :=
  match s.inputs with
  | [] => none
  | word :: rest => some (word, setInputs rest s)

/-- The bits of an opcode-table row are presented ahead of every other word (log entry 13). -/
def presentTableWord (nbits w : Nat) (s : State) : State :=
  match tableWord nbits w with
  | some word => setInputs (word :: s.inputs) s
  | none => s

/-- The format X word of element `k` of a sequence: `dur` in bits 15:0, `level` in bit 16, `last` in bit
17 (30_encoding.md R56). None outside the sequence; none for a duration that does not fit `DUR_W` = 16
bits, for which the spec gives no word (log entry 19). -/
def formatX (seq : List Nat) (k : Nat) : Option (BitVec 18) :=
  match seq[k]? with
  | none => none
  | some d =>
    if d < 2 ^ 16 then
      some (BitVec.ofBool (k + 1 == seq.length) ++ BitVec.ofBool (isMark k) ++ BitVec.ofNat 16 d)
    else none

/-- The words on `tx_elem` for a `TXSTART seq`, in index order, none skipped or repeated
(30_encoding.md R56). -/
def txElems (seq : List Nat) : List (Option (BitVec 18)) :=
  (List.range seq.length).map (formatX seq)

/-- What the RSLV port carries for one `RESOLVE` (30_encoding.md R50, R57). -/
structure RslvWord where
  tag : Tag
  fail : BitVec 1
  /-- Present exactly when `fail = 1`. -/
  info : Option ErrInfo
deriving DecidableEq, Repr

/-- The format V word and side-band values of an outcome (30_encoding.md R57). -/
def formatV (tag : Tag) : TxOutcome → RslvWord
  | .ok => { tag := tag, fail := 0#1, info := none }
  | .err info => { tag := tag, fail := 1#1, info := some info }

/-- The word an output event puts on the RSLV port; a `TXSTART` puts none there. -/
def rslvWord : OutEvent → Option RslvWord
  | .txstart _ => none
  | .resolve tag out => some (formatV tag out)

end Sys2Proof.Machine
end

