-- ==== Sys2Proof/Machine/Step.lean ====
section
/-! DEFINITION. One step: take the next word presented, decode it, run the event it selects. -/

namespace Sys2Proof.Machine

/-- One step. With nothing presented the block waits (10_state.md R28); a word that is no event
(30_encoding.md R55) is taken and changes nothing else. -/
def step (s : State) : Host.Outcome State Fault Refusal :=
  match fetch s with
  | none => .next s
  | some (word, s') =>
    match decode word with
    | .ok i => exec i s'
    | .error _ => .next s'

/-- The bits of an opcode-table row presented so that the very next step takes them (log entries 6 and
13). -/
def State.withFetchWord (s : State) (nbits w : Nat) : State := presentTableWord nbits w s

end Sys2Proof.Machine
end

