-- ==== Sys2Proof/Machine/Flags.lean ====
section
/-! DEFINITION. The block has no flags, condition codes or sticky bits (10_state.md R25, decision D19).
What shows its state are three status outputs, wires that nothing writes and whose reading changes
nothing (10_state.md R29, 20_memory.md R39). -/

namespace Sys2Proof.Machine

/-- The 2-bit code of `ST` (30_encoding.md R54). -/
def schedCode : Sched → BitVec 2
  | .idle => 0b00#2
  | .debouncing => 0b01#2
  | .transmitting => 0b10#2

/-- `st_o[1:0]` (10_state.md R29, 30_encoding.md R54). -/
def stO (s : State) : BitVec 2 := schedCode s.st

/-- `powered_o` (10_state.md R29). -/
def poweredO (s : State) : BitVec 1 := BitVec.ofBool s.powered

/-- `speed_o[1:0]` (10_state.md R29, 30_encoding.md R53). -/
def speedO (s : State) : BitVec 2 := levelCode s.speed

end Sys2Proof.Machine
end

