-- ==== Sys2Proof/Machine/Boundary.lean ====
section
/-! DEFINITION. What the spec settles on the far side of the ports (43_boundary.md): the Host's percent
snapping, the Transmitter's request and its reading of the reply. Nothing of the block depends on it. -/

namespace Sys2Proof.Machine

/-- `PCT(l)` (43_boundary.md R128). -/
def pct : Level → Nat
  | .off => 0
  | .low => 25
  | .medium => 50
  | .high => 100

/-- `SNAP(num / den)` in integers (43_boundary.md R129): 0 gives OFF, below 37.5 LOW, below 75 MEDIUM,
else HIGH. None outside 0 to 100, where the spec gives no value (91_not_in_source.md N9; log entry 20). -/
def snapRatio (num den : Nat) : Option Level :=
  if den = 0 ∨ 100 * den < num then none
  else if num = 0 then some .off
  else if 2 * num < 75 * den then some .low
  else if num < 75 * den then some .medium
  else some .high

/-- `SNAP(p)` for a whole percent (43_boundary.md R129). -/
def snap (p : Nat) : Option Level := snapRatio p 1

/-- The Transmitter's own configuration, with its documented defaults (43_boundary.md R138). -/
structure TransmitterConfig where
  host : String := "localhost"
  port : Nat := 5001
deriving DecidableEq, Repr

/-- One HTTP GET request (43_boundary.md R135). How the parameters are escaped in the URL is not in the
spec (41_timing_encoder.md R100). -/
structure HttpGet where
  host : String
  port : Nat
  path : String
  params : List (String × String)
deriving DecidableEq, Repr

/-- The one request that a `TXSTART seq` makes (43_boundary.md R135). -/
def requestOf (c : TransmitterConfig) (seq : List Nat) : HttpGet :=
  { host := c.host, port := c.port, path := "/send",
    params := [("protocol", "raw"), ("code", rawCode seq)] }

/-- What comes back to the Transmitter (43_boundary.md R136). -/
inductive Reply where
  /-- A transport-level failure, with its error text. -/
  | transportError (text : String) (latency : Nat)
  /-- An HTTP response: its status and status text, and the body's `status` and `message` fields where
  the body has them. -/
  | response (status : Nat) (statusText : String) (bodyStatus bodyMessage : Option String)
      (latency : Nat)
deriving DecidableEq, Repr

/-- The outcome of a reply: the decision list of 43_boundary.md R136, in its order. The message of a body
without a message field is a free value; the marker is compared letter for letter and any status below 400
with it is a success, both DEDUCED (log entry 20). -/
def outcomeOf : Reply → TxOutcome
  | .transportError text latency => .err { message := text, latency := latency }
  | .response status statusText bodyStatus bodyMessage latency =>
    if 400 ≤ status then .err { message := statusText, latency := latency }
    else if bodyStatus = some "success" then .ok
    else .err { message := bodyMessage.getD Config.absentMessage, latency := latency }

/-- The `TXDONE` that reports an outcome (43_boundary.md R133). -/
def txdoneOf : TxOutcome → Instr
  | .ok => .txdoneOk
  | .err info => .txdoneErr info

end Sys2Proof.Machine
end

