-- ==== Sys2Proof/Machine/Trace.lean ====
section
/-! DEFINITION. The notation for traces and its pseudo-operations (30_encoding.md R63, R64). -/

namespace Sys2Proof.Machine

/-- `TICK*n` (30_encoding.md R64). -/
def tickTimes (n : Nat) : List Instr := List.replicate n .tick

/-- `WAIT`: `TICK*DTIMER`, defined only in Debouncing (30_encoding.md R64). -/
def waitTicks (s : State) : Option (List Instr) :=
  match s.st with
  | .debouncing => some (tickTimes s.dtimer)
  | .idle => none
  | .transmitting => none

/-- `SETSPEED% p #tag`: `SETSPD SNAP(p) #tag` (30_encoding.md R64). -/
def setSpeedPercent (p : Nat) (tag : Tag) : Option Instr :=
  match snap p with
  | some lvl => some (.setspd lvl tag)
  | none => none

/-- `TXSTART b@a` (30_encoding.md R64). -/
def txstartAt (c : Config) (b : Button) (a : Address) : Option OutEvent :=
  match tenc c (benc b a) with
  | some seq => some (.txstart seq)
  | none => none

/-- A number in decimal, as the trace writes a tag. -/
def numeral (n : Nat) : String := String.ofList (decimal n)

/-- A Level as the trace writes it. -/
def levelName : Level → String
  | .off => "OFF"
  | .low => "LOW"
  | .medium => "MEDIUM"
  | .high => "HIGH"

/-- A bit as the trace writes it. -/
def bitName (b : Bool) : String := if b then "1" else "0"

/-- The trace line of an event (30_encoding.md R63). DESIGN CHOICE (log entry 24): R63 writes the error value
of `TXDONE err(e)` as the symbol `e` alone, ErrInfo being OPEN; this prints its message and not its latency. -/
def traceLine : Instr → String
  | .setpwr on tag => "SETPWR " ++ (if on then "on" else "off") ++ " #" ++ numeral tag
  | .setspd lvl tag => "SETSPD " ++ levelName lvl ++ " #" ++ numeral tag
  | .badcmd word tag =>
    "BADCMD " ++ bitName (word.getLsbD 2) ++ bitName (word.getLsbD 1) ++ bitName (word.getLsbD 0)
      ++ " #" ++ numeral tag
  | .tick => "TICK"
  | .txdoneOk => "TXDONE ok"
  | .txdoneErr info => "TXDONE err(" ++ info.message ++ ")"
  | .reset cfgAddr => "RESET [" ++ String.intercalate "," (cfgAddr.map bitName) ++ "]"

end Sys2Proof.Machine
end

