-- ==== Sys2Proof/Safety.lean ====
section
/-! DEFINITION. What counts as a safe state and a safe run, and the words the statements use: the
invariants of 10_state.md R27, runs of events, what a run requests, starts and resolves, which error an
event raises, and the renaming of tags and error values. -/

namespace Sys2Proof.Machine

/-! ### States -/

/-- The invariants of 10_state.md R27, with a configuration the spec allows. -/
abbrev State.Inv (s : State) : Prop :=
  s.cfg.Valid
  ∧ (s.st = .idle → s.queue = [] ∧ s.batch = [] ∧ s.dtimer = 0)
  ∧ (s.st = .debouncing →
      s.queue ≠ [] ∧ s.batch = [] ∧ 1 ≤ s.dtimer ∧ s.dtimer ≤ s.cfg.debounceTicks)
  ∧ (s.st = .transmitting → s.batch ≠ [] ∧ s.dtimer = 0)

/-- Quiescent: `ST = Idle` (70_reset_and_hazards.md R172). -/
def quiescent (s : State) : Bool := decide (s.st = .idle)

/-- The number of transmissions in flight as the block knows it (10_state.md R24, R27). -/
def inFlight (s : State) : Nat := if s.st = .transmitting then 1 else 0

/-! ### Events -/

/-- `SETPWR` or `SETSPD`. -/
def isRequest : Instr → Bool
  | .setpwr _ _ => true
  | .setspd _ _ => true
  | .badcmd _ _ => false
  | .tick => false
  | .txdoneOk => false
  | .txdoneErr _ => false
  | .reset _ => false

/-- `TXDONE` with either outcome. -/
def isDone : Instr → Bool
  | .setpwr _ _ => false
  | .setspd _ _ => false
  | .badcmd _ _ => false
  | .tick => false
  | .txdoneOk => true
  | .txdoneErr _ => true
  | .reset _ => false

/-- `RESET`. -/
def isReset : Instr → Bool
  | .setpwr _ _ => false
  | .setspd _ _ => false
  | .badcmd _ _ => false
  | .tick => false
  | .txdoneOk => false
  | .txdoneErr _ => false
  | .reset _ => true

/-- The tag of a request; the tag of a reserved word is no request's (30_encoding.md R60). -/
def requestTag : Instr → Option Tag
  | .setpwr _ tag => some tag
  | .setspd _ tag => some tag
  | .badcmd _ _ => none
  | .tick => none
  | .txdoneOk => none
  | .txdoneErr _ => none
  | .reset _ => none

/-- The tags of the requests among the events, in order. -/
def requestTags (events : List Instr) : List Tag := events.filterMap requestTag

/-- The number of `TICK`s among the events. -/
def tickCount (events : List Instr) : Nat := events.count .tick

/-- FanState after the requests among the events (10_state.md R15, R16). -/
def fanAfter : List Instr → Bool × Level → Bool × Level
  | [], fan => fan
  | .setpwr on _ :: events, fan => fanAfter events (on, fan.2)
  | .setspd lvl _ :: events, fan => fanAfter events (fan.1, lvl)
  | .badcmd _ _ :: events, fan => fanAfter events fan
  | .tick :: events, fan => fanAfter events fan
  | .txdoneOk :: events, fan => fanAfter events fan
  | .txdoneErr _ :: events, fan => fanAfter events fan
  | .reset _ :: events, fan => fanAfter events fan

/-- The error cause that an event raises in a state, at most one (60_exceptions.md R141, R150). -/
def raises (i : Instr) (s : State) : Option Cause :=
  match i with
  | .setpwr _ _ => none
  | .setspd _ _ => none
  | .badcmd _ _ => some .illegalCommand
  | .tick => none
  | .txdoneOk => if s.st = .transmitting then none else some .spuriousCompletion
  | .txdoneErr info =>
    if s.st = .transmitting then some (.transmitError info) else some .spuriousCompletion
  | .reset cfgAddr => if cfgAddr.length = addrLen then none else some .encodingPrecondition

/-- What the environment is assumed never to do (70_reset_and_hazards.md R173): present a reserved word,
or a completion with no transmission outstanding. -/
def environmentKeeps (i : Instr) (s : State) : Bool :=
  !(raises i s == some .illegalCommand) && !(raises i s == some .spuriousCompletion)

/-! ### Runs -/

/-- The events taken one after another (00_scope.md R10). -/
def runEvents : List Instr → State → Host.Outcome State Fault Refusal
  | [], s => .next s
  | i :: events, s =>
    match exec i s with
    | .next t => runEvents events t
    | .fault r => .fault r
    | .refused r => .refused r

/-- The number of `TXDONE` events of a run that answer a transmission (10_state.md R27). -/
def acceptedDones : List Instr → State → Nat
  | [], _ => 0
  | i :: events, s =>
    (if isDone i ∧ s.st = .transmitting then 1 else 0) +
      match exec i s with
      | .next t => acceptedDones events t
      | .fault _ => 0
      | .refused _ => 0

/-- The tag an output event resolves. -/
def resolvedTag : OutEvent → Option Tag
  | .txstart _ => none
  | .resolve tag _ => some tag

/-- The tags resolved by the output events, in order. -/
def resolvedTags (events : List OutEvent) : List Tag := events.filterMap resolvedTag

/-- Whether an output event is a `TXSTART`. -/
def isTxstart : OutEvent → Bool
  | .txstart _ => true
  | .resolve _ _ => false

/-- The number of `TXSTART`s among the output events. -/
def txstartCount (events : List OutEvent) : Nat := events.countP isTxstart

/-! ### Renaming of what the block never inspects (30_encoding.md R52, 00_scope.md R6) -/

/-- Rename the tags by `f` and the error values by `g` in an outcome. -/
def renameOutcome (g : ErrInfo → ErrInfo) : TxOutcome → TxOutcome
  | .ok => .ok
  | .err info => .err (g info)

/-- Rename in an output event. -/
def renameOut (f : Tag → Tag) (g : ErrInfo → ErrInfo) : OutEvent → OutEvent
  | .txstart seq => .txstart seq
  | .resolve tag out => .resolve (f tag) (renameOutcome g out)

/-- Rename in a port word. -/
def renameWord (f : Tag → Tag) (g : ErrInfo → ErrInfo) : PortWord → PortWord
  | .req cmd tag => .req cmd (f tag)
  | .tick word => .tick word
  | .txr fail info => .txr fail (g info)
  | .rst word cfgAddr => .rst word cfgAddr

/-- Rename in a state: in both queues, in the words not yet taken and in the events emitted. -/
def renameState (f : Tag → Tag) (g : ErrInfo → ErrInfo) (s : State) : State :=
  { s with queue := s.queue.map f, batch := s.batch.map f,
           inputs := s.inputs.map (renameWord f g), outs := s.outs.map (renameOut f g) }

end Sys2Proof.Machine
end

