-- ==== Sys2Proof/Certificates/Slice0/Obligations.lean ====
section
/-! DEFINITION. Statements for the provers, in the order of OBLIGATIONS.json. Every statement quantifies over
every configuration: the parameters stand in the state, and no statement rests on the values that
`Config.reference` names. -/

open Sys2Proof Sys2Proof.Machine

/-! ### Words and events -/

/-- Presenting an event and decoding its word gives the event back, for every well-formed event. -/
def Obligations.DecodeOfEncodeIsTheEvent : Prop :=
  ∀ i : Instr, i.wellFormed = true → decode (encode i) = .ok i

/-- Every word that decodes gives a well-formed event, and encoding that event gives the word back, up to
the `txr_info` that format S ignores (30_encoding.md, sections 2 and 9). -/
def Obligations.EncodeOfDecodeIsTheWord : Prop :=
  ∀ (w : PortWord) (i : Instr), decode w = .ok i →
    i.wellFormed = true ∧ encode i = canonicalWord w

/-- The eight words of format C (30_encoding.md R51). -/
def Obligations.FormatCWordsSelectTheirOperations : Prop :=
  ∀ tag : Tag,
    decode (.req 0b000#3 tag) = .ok (.setpwr false tag)
    ∧ decode (.req 0b001#3 tag) = .ok (.setpwr true tag)
    ∧ decode (.req 0b010#3 tag) = .ok (.badcmd 0b010#3 tag)
    ∧ decode (.req 0b011#3 tag) = .ok (.badcmd 0b011#3 tag)
    ∧ decode (.req 0b100#3 tag) = .ok (.setspd .off tag)
    ∧ decode (.req 0b101#3 tag) = .ok (.setspd .low tag)
    ∧ decode (.req 0b110#3 tag) = .ok (.setspd .medium tag)
    ∧ decode (.req 0b111#3 tag) = .ok (.setspd .high tag)
    ∧ ∀ cmd : BitVec 3,
        (cmd &&& 0b110#3 = 0b000#3 ↔ ∃ on, decode (.req cmd tag) = .ok (.setpwr on tag))
        ∧ (cmd &&& 0b100#3 = 0b100#3 ↔ ∃ lvl, decode (.req cmd tag) = .ok (.setspd lvl tag))

/-- The words of formats K, S and R (30_encoding.md R55): `1` is TICK and `0` no event; `txr_fail` is the
outcome of TXDONE; `1` is RESET with `a[i] = cfg_addr[i]` and `0` no event. -/
def Obligations.TickTxrAndResetWordsDecode : Prop :=
  decode (.tick 1#1) = .ok .tick ∧ decode (.tick 0#1) = .error .noTick
  ∧ (∀ info, decode (.txr 0#1 info) = .ok .txdoneOk)
  ∧ (∀ info, decode (.txr 1#1 info) = .ok (.txdoneErr info))
  ∧ (∀ c, decode (.rst 0#1 c) = .error .noReset)
  ∧ ∀ c : BitVec 4, ∃ bits, decode (.rst 1#1 c) = .ok (.reset bits) ∧ bits.length = addrLen
      ∧ ∀ i, i < addrLen → bits[i]? = some (c.getLsbD i)

/-- The codes of a Level (30_encoding.md R53), in `SETSPD`'s `arg` and on `speed_o`. -/
def Obligations.LevelCodesAreAsTabled : Prop :=
  levelCode .off = 0#2 ∧ levelCode .low = 1#2 ∧ levelCode .medium = 2#2 ∧ levelCode .high = 3#2
  ∧ (∀ l, levelOfCode (levelCode l) = l) ∧ (∀ s : State, speedO s = levelCode s.speed)
  ∧ ∀ l tag, ∃ cmd, encode (.setspd l tag) = .req cmd tag ∧ cmd.extractLsb' 0 2 = levelCode l

/-- The codes of `ST` on `st_o`; `11` is never produced (30_encoding.md R54). -/
def Obligations.StatusOutputCodesAreAsTabled : Prop :=
  (∀ s : State, (s.st = .idle → stO s = 0b00#2) ∧ (s.st = .debouncing → stO s = 0b01#2)
    ∧ (s.st = .transmitting → stO s = 0b10#2) ∧ stO s ≠ 0b11#2)
  ∧ ∀ s : State, (poweredO s = 1#1 ↔ s.powered = true)

/-! ### Bit Sequence Encoder -/

/-- The Buttons and their pin indices, and which Buttons TARGET can give (40_bit_encoder.md R73). -/
def Obligations.ButtonPinsAreAsTabled : Prop :=
  pin .low = 0 ∧ pin .light = 1 ∧ pin .dim = 2 ∧ pin .medium = 3 ∧ pin .high = 4 ∧ pin .off = 5
  ∧ pin .reverse = 7
  ∧ (∀ b, b ∈ [Button.low, .light, .dim, .medium, .high, .off, .reverse])
  ∧ (∀ b, pin b < 8 ∧ pin b ≠ 6)
  ∧ (∀ b b', pin b = pin b' → b = b')
  ∧ ∀ b, (∃ p s, target p s = b) ↔ (b = .low ∨ b = .medium ∨ b = .high ∨ b = .off)

/-- `ONEHOT(b)` has eight bits, the one at `PIN(b)` set and every other clear; no Button gives the word
with only bit 6 set (40_bit_encoder.md R74). -/
def Obligations.OneHotSetsExactlyThePinBit : Prop :=
  (∀ b, (oneHot b).length = 8 ∧ ∀ i, i < 8 → (oneHot b)[i]? = some (decide (i = pin b)))
  ∧ ∀ b, oneHot b ≠ [false, false, false, false, false, false, true, false]

/-- For an Address sequence of any length, BENC is the one-hot field followed by the Address verbatim, and
it is injective in the Button and the Address (40_bit_encoder.md section 2). -/
def Obligations.BencIsOneHotThenAddressAndInjective : Prop :=
  (∀ (b : Button) (a : List Bool),
    (bencBits b a).length = 8 + a.length
    ∧ (∀ i, i < 8 → (bencBits b a)[i]? = some (decide (i = pin b)))
    ∧ ∀ i, (bencBits b a)[8 + i]? = a[i]?)
  ∧ ∀ (b b' : Button) (a a' : List Bool), bencBits b a = bencBits b' a' → b = b' ∧ a = a'

/-- The source's testable property of the encoder (40_bit_encoder.md R82), for every Button and every
Address of length 4. -/
def Obligations.BencOfABlockAddressHasOneButtonBit : Prop :=
  ∀ (b : Button) (a : Address),
    (benc b a).length = 12
    ∧ (∀ i, i < 8 → ((benc b a)[i]? = some true ↔ i = pin b))
    ∧ (benc b a)[8]? = some a.a0 ∧ (benc b a)[9]? = some a.a1
    ∧ (benc b a)[10]? = some a.a2 ∧ (benc b a)[11]? = some a.a3

/-- The numeric form of BENC answers for exactly the pin indices of the Buttons and refuses 6 and every
index above 7 (40_bit_encoder.md, sections 1 and 2). -/
def Obligations.NumericBencRefusesWhatIsNoButton : Prop :=
  (∀ (b : Button) (a : Address), bencPin (pin b) a = .ok (benc b a))
  ∧ ∀ (k : Nat) (a : Address), (k = 6 ∨ 8 ≤ k) → bencPin k a = .error .encodingPrecondition

/-- TARGET: OFF unless powered, else the speed's Button, with the Level-to-Button table
(40_bit_encoder.md R79, R80). -/
def Obligations.TargetIsOffUnlessPowered : Prop :=
  btn .off = .off ∧ btn .low = .low ∧ btn .medium = .medium ∧ btn .high = .high
  ∧ pin (btn .off) = 5 ∧ pin (btn .low) = 0 ∧ pin (btn .medium) = 3 ∧ pin (btn .high) = 4
  ∧ oneHot (btn .off) = [false, false, false, false, false, true, false, false]
  ∧ oneHot (btn .low) = [true, false, false, false, false, false, false, false]
  ∧ oneHot (btn .medium) = [false, false, false, true, false, false, false, false]
  ∧ oneHot (btn .high) = [false, false, false, false, true, false, false, false]
  ∧ (∀ s, target false s = .off) ∧ (∀ s, target true s = btn s)
  ∧ ∀ p s, target p s ≠ .light ∧ target p s ≠ .dim ∧ target p s ≠ .reverse

/-! ### Timing Encoder -/

/-- `SYM` (41_timing_encoder.md R87): the two pairs, their common sum, and that either element tells the
bit when `T` is at least 1. -/
def Obligations.SymIsLongShortForOne : Prop :=
  ∀ c : Config,
    sym c true = [2 * c.t, c.t] ∧ sym c false = [c.t, 2 * c.t]
    ∧ (∀ bit, (sym c bit).sum = 3 * c.t)
    ∧ (1 ≤ c.t → ∀ k, k < 2 → (sym c true)[k]? ≠ (sym c false)[k]?)

/-- `FRAME` of a non-empty word has `1 + 2*len(w) + 1` durations (41_timing_encoder.md R92); 26 for a
BitWord of the block. -/
def Obligations.FrameLengthIsTwicePlusTwo : Prop :=
  (∀ (c : Config) (w : BitWord) (f : List Nat),
    frame c w = some f → f.length = 1 + 2 * w.length + 1)
  ∧ ∀ (c : Config) (b : Button) (a : Address),
      ∃ f, frame c (benc b a) = some f ∧ f.length = 26

/-- Every element of a frame: the sync first, the pair of bit `i` at `1 + 2i` and `2 + 2i`, the pilot last
(41_timing_encoder.md section 3). -/
def Obligations.FrameElementsAreSyncPairsPilot : Prop :=
  ∀ (c : Config) (w : BitWord), w ≠ [] → ∃ f, frame c w = some f
    ∧ f[0]? = some c.t
    ∧ (∀ i b, w[i]? = some b →
        f[1 + 2 * i]? = some (if b then 2 * c.t else c.t)
        ∧ f[2 + 2 * i]? = some (if b then c.t else 2 * c.t))
    ∧ f[2 * w.length + 1]? = some (20 * c.t)

/-- The encoders have no value for the empty word, the model's form of the precondition (log entry 12), and
a value for every other word (41_timing_encoder.md section 7). -/
def Obligations.EncodersHaveNoValueExactlyForTheEmptyWord : Prop :=
  ∀ (c : Config) (w : BitWord), (frame c w = none ↔ w = []) ∧ (tenc c w = none ↔ w = [])

/-- `TENC` is `REPEAT` copies of the frame with nothing between: its length and every element
(41_timing_encoder.md section 4). -/
def Obligations.TransmissionIsTheFrameRepeated : Prop :=
  ∀ (c : Config) (w : BitWord) (f seq : List Nat),
    frame c w = some f → tenc c w = some seq →
    seq.length = c.repeatCount * (2 * w.length + 2)
    ∧ ∀ k, k < c.repeatCount * (2 * w.length + 2) → seq[k]? = f[k % (2 * w.length + 2)]?

/-- The source's testable property of the transmission: each of the `REPEAT` frames begins with the sync
duration and ends with the pilot duration (41_timing_encoder.md section 10). -/
def Obligations.EveryFrameBeginsWithSyncAndEndsWithPilot : Prop :=
  ∀ (c : Config) (w : BitWord) (seq : List Nat), tenc c w = some seq →
    ∀ r, r < c.repeatCount →
      seq[r * (1 + 2 * w.length + 1)]? = some c.t
      ∧ seq[r * (1 + 2 * w.length + 1) + (2 * w.length + 1)]? = some (20 * c.t)

/-- `TENC` is injective on words of one length (41_timing_encoder.md section 8). -/
def Obligations.TencIsInjectiveOnWordsOfOneLength : Prop :=
  ∀ (c : Config) (w v : BitWord) (seq : List Nat), c.Valid → w.length = v.length →
    tenc c w = some seq → tenc c v = some seq → w = v

/-- A `TXSTART` sequence determines the Button and the Address it was computed from
(41_timing_encoder.md section 8). -/
def Obligations.SequenceDeterminesButtonAndAddress : Prop :=
  ∀ (c : Config) (b : Button) (a : Address) (seq : List Nat), c.Valid →
    tenc c (benc b a) = some seq → buttonOfSeq c seq = some b ∧ addressOfSeq c seq = some a

/-- The time on air of a frame and of a transmission, and the marks' share of a frame
(41_timing_encoder.md section 6). The share rests on which elements are marks, which the spec infers
(41_timing_encoder.md R95, 91_not_in_source.md N4) and log entry 18 carries as DEDUCED. -/
def Obligations.TimeOnAirOfFrameAndTransmission : Prop :=
  ∀ (c : Config) (w : BitWord) (f seq : List Nat),
    frame c w = some f → tenc c w = some seq →
    airTime f = (3 * w.length + 21) * c.t
    ∧ airTime seq = c.repeatCount * ((3 * w.length + 21) * c.t)
    ∧ (markSpaceTime true f).1 + w.count true * c.t = (1 + 2 * w.length) * c.t
    ∧ (markSpaceTime true f).1 + (markSpaceTime true f).2 = airTime f

/-- The format X word of an element (30_encoding.md section 6): `dur`, `level` and `last`; with `T` at most
3276 every element of a transmission has one (41_timing_encoder.md section 6). The clause on `level` rests on
which elements are marks, which the spec infers (41_timing_encoder.md R95, 91_not_in_source.md N4) and log
entry 18 carries as DEDUCED. -/
def Obligations.FormatXWordsCarryDurationLevelAndLast : Prop :=
  (∀ (seq : List Nat) (k d : Nat), seq[k]? = some d → d < 65536 →
    ∃ x, formatX seq k = some x ∧ (x.extractLsb' 0 16).toNat = d
      ∧ (x.getLsbD 16 = true ↔ k % 2 = 0) ∧ (x.getLsbD 17 = true ↔ k = seq.length - 1))
  ∧ ∀ (c : Config) (w : BitWord) (seq : List Nat), c.t ≤ 3276 → tenc c w = some seq →
      ∀ k, k < seq.length → ∃ x, formatX seq k = some x

/-- The raw code (41_timing_encoder.md section 9). Each numeral is a non-empty row of decimal digits without
leading zeros that reads back as the number. The text is a body between two double quotes, the body without
a quote and without a space at either end, and cutting it at every space gives exactly the numerals of the
elements in order: no numeral is empty, so two spaces never stand together. Sequences with one text are
equal. -/
def Obligations.RawCodeNumeralsReadBack : Prop :=
  (∀ n : Nat,
    decimal n ≠ []
    ∧ (decimal n).foldl (fun acc ch => 10 * acc + (ch.toNat - 48)) 0 = n
    ∧ (∀ ch ∈ decimal n, 48 ≤ ch.toNat ∧ ch.toNat ≤ 57)
    ∧ ((decimal n).head? = some '0' → decimal n = ['0']))
  ∧ (∀ seq : List Nat, (rawCode seq).toList = rawCodeChars seq
    ∧ ∃ body, rawCodeChars seq = [Char.ofNat 34] ++ body ++ [Char.ofNat 34]
      ∧ Char.ofNat 34 ∉ body
      ∧ body.head? ≠ some ' ' ∧ body.getLast? ≠ some ' '
      ∧ (seq = [] → body = [])
      ∧ (seq ≠ [] → body.splitOn ' ' = seq.map decimal))
  ∧ ∀ seq seq' : List Nat, rawCodeChars seq = rawCodeChars seq' → seq = seq'

/-! ### The operations: what each answers -/

/-- `SETPWR on #tag` in every state (42_scheduler.md section 3): the word `00p` selects it; it writes
`POWERED`, appends the tag, and from Idle starts the timer; nothing else changes and nothing is emitted. -/
def Obligations.SetpwrWritesPoweredAndQueuesItsTag : Prop :=
  ∀ (on : Bool) (tag : Tag) (s : State),
    decode (.req (0b00#2 ++ BitVec.ofBool on) tag) = .ok (.setpwr on tag)
    ∧ (s.st = .idle → exec (.setpwr on tag) s =
        .next { s with powered := on, queue := s.queue ++ [tag], st := .debouncing,
                       dtimer := s.cfg.debounceTicks })
    ∧ (s.st ≠ .idle → exec (.setpwr on tag) s =
        .next { s with powered := on, queue := s.queue ++ [tag] })

/-- `SETSPD lvl #tag` in every state (42_scheduler.md section 3): the word `1ll` selects it; it writes
`SPEED`, appends the tag, and from Idle starts the timer; nothing else changes and nothing is emitted. -/
def Obligations.SetspdWritesSpeedAndQueuesItsTag : Prop :=
  ∀ (lvl : Level) (tag : Tag) (s : State),
    decode (.req (0b1#1 ++ levelCode lvl) tag) = .ok (.setspd lvl tag)
    ∧ (s.st = .idle → exec (.setspd lvl tag) s =
        .next { s with speed := lvl, queue := s.queue ++ [tag], st := .debouncing,
                       dtimer := s.cfg.debounceTicks })
    ∧ (s.st ≠ .idle → exec (.setspd lvl tag) s =
        .next { s with speed := lvl, queue := s.queue ++ [tag] })

/-- `TICK` (42_scheduler.md section 4): nothing outside Debouncing; a count down above 1; at 1 EXPIRE, which
takes the whole queue as the batch and emits the transmission of the current FanState. -/
def Obligations.TickCountsDownAndExpires : Prop :=
  ∀ s : State,
    (s.st ≠ .debouncing → exec .tick s = .next s)
    ∧ (s.st = .debouncing → 1 < s.dtimer → exec .tick s = .next { s with dtimer := s.dtimer - 1 })
    ∧ (s.st = .debouncing → s.dtimer = 1 →
        ∃ seq, tenc s.cfg (benc (target s.powered s.speed) s.addr) = some seq
          ∧ exec .tick s = .next { s with dtimer := 0, st := .transmitting, batch := s.queue,
                                          queue := [], outs := s.outs ++ [.txstart seq] })

/-- The model's choice (log entry 11), which 42_scheduler.md R110 allows: in Debouncing, `DTIMER = 0` is
taken like `DTIMER = 1`. -/
def Obligations.TickWithZeroTimerExpiresToo : Prop :=
  ∀ s : State, s.st = .debouncing → s.dtimer = 0 →
    exec .tick s = exec .tick { s with dtimer := 1 }

/-- `TXDONE OK` while Transmitting (42_scheduler.md section 5): every tag of the batch is resolved in order
with OK, whose word on the RSLV port has `rslv_fail` = 0 and no `rslv_info` (30_encoding.md section 6); with
an empty queue the block goes to Idle, else to Debouncing with a fresh timer. -/
def Obligations.TxdoneOkResolvesTheBatch : Prop :=
  ∀ s : State, s.st = .transmitting →
    (s.queue = [] → exec .txdoneOk s =
      .next { s with batch := [], st := .idle,
                     outs := s.outs ++ s.batch.map (fun tag => .resolve tag .ok) })
    ∧ (s.queue ≠ [] → exec .txdoneOk s =
      .next { s with batch := [], st := .debouncing, dtimer := s.cfg.debounceTicks,
                     outs := s.outs ++ s.batch.map (fun tag => .resolve tag .ok) })
    ∧ ∀ tag, rslvWord (.resolve tag .ok) = some { tag := tag, fail := 0#1, info := none }

/-- `TXDONE ERR(e)` while Transmitting (42_scheduler.md section 5, 60_exceptions.md section 1): every tag of
the batch is resolved in order with the same error; with an empty queue the block goes to Idle, else to
Debouncing with a fresh timer; FanState stays. -/
def Obligations.TxdoneErrResolvesTheBatchWithTheError : Prop :=
  ∀ (e : ErrInfo) (s : State), s.st = .transmitting →
    (s.queue = [] → exec (.txdoneErr e) s =
      .next { s with batch := [], st := .idle,
                     outs := s.outs ++ s.batch.map (fun tag => .resolve tag (.err e)) })
    ∧ (s.queue ≠ [] → exec (.txdoneErr e) s =
      .next { s with batch := [], st := .debouncing, dtimer := s.cfg.debounceTicks,
                     outs := s.outs ++ s.batch.map (fun tag => .resolve tag (.err e)) })

/-- SpuriousCompletion (60_exceptions.md section 1): a TXDONE outside Transmitting is dropped. The spec lets
a model drop or refuse; that this one drops is log entry 10. -/
def Obligations.SpuriousCompletionIsDropped : Prop :=
  ∀ (e : ErrInfo) (s : State), s.st ≠ .transmitting →
    exec .txdoneOk s = .next s ∧ exec (.txdoneErr e) s = .next s

/-- IllegalCommand (30_encoding.md section 9, 60_exceptions.md section 1): the words `010` and `011` with any
tag are dropped in every state. The spec lets a model drop or refuse; that this one drops is log entry 9. -/
def Obligations.ReservedCommandIsDropped : Prop :=
  ∀ (word : BitVec 3) (tag : Tag) (s : State), (word = 0b010#3 ∨ word = 0b011#3) →
    decode (.req word tag) = .ok (.badcmd word tag) ∧ exec (.badcmd word tag) s = .next s

/-- `RESET` in every state (70_reset_and_hazards.md section 1): every register at its reset value, the Address
taken element by element, nothing emitted. -/
def Obligations.ResetLoadsEveryRegister : Prop :=
  ∀ (b0 b1 b2 b3 : Bool) (s : State),
    exec (.reset [b0, b1, b2, b3]) s =
      .next { addr := { a0 := b0, a1 := b1, a2 := b2, a3 := b3 }, powered := s.cfg.resetPowered,
              speed := s.cfg.resetSpeed, st := .idle, dtimer := 0, queue := [], batch := [],
              cfg := s.cfg, inputs := s.inputs, outs := s.outs }

/-- EncodingPrecondition (60_exceptions.md section 1): with an Address that has not `ADDR_LEN` elements no
instance is built. That the model answers so by a refusal is log entry 12. -/
def Obligations.ResetWithMalformedAddressIsRefused : Prop :=
  ∀ (bits : List Bool) (s : State), bits.length ≠ addrLen →
    exec (.reset bits) s = .refused .encodingPrecondition

/-! ### All operations: frames, outputs, errors -/

/-- Which operation writes which state element (10_state.md R13, the "written by" column): whatever an
operation is not named for stays as it was. The parameters and the words not yet taken are never written. -/
def Obligations.ElementsChangeOnlyByTheirWriters : Prop :=
  ∀ (i : Instr) (s t : State), exec i s = .next t →
    t.cfg = s.cfg ∧ t.inputs = s.inputs
    ∧ (isReset i = false → t.addr = s.addr)
    ∧ (isReset i = false → (∀ on tag, i ≠ .setpwr on tag) → t.powered = s.powered)
    ∧ (isReset i = false → (∀ lvl tag, i ≠ .setspd lvl tag) → t.speed = s.speed)
    ∧ (isDone i = true → t.queue = s.queue)
    ∧ (isRequest i = true → t.batch = s.batch)
    ∧ (isRequest i = true → s.st ≠ .idle → t.dtimer = s.dtimer ∧ t.st = s.st)
    ∧ (i = .tick → ¬ (s.st = .debouncing ∧ s.dtimer ≤ 1) →
        t.st = s.st ∧ t.queue = s.queue ∧ t.batch = s.batch)
    ∧ ((∃ word tag, i = .badcmd word tag) → t = s)

/-- The complete list of ways `ST` changes (30_encoding.md section 12). -/
def Obligations.SchedulerStateChangesOnlyAsListed : Prop :=
  ∀ (i : Instr) (s t : State), s.Inv → exec i s = .next t →
    t.st = s.st
    ∨ (s.st = .idle ∧ t.st = .debouncing ∧ isRequest i = true)
    ∨ (s.st = .debouncing ∧ t.st = .transmitting ∧ i = .tick ∧ s.dtimer = 1)
    ∨ (s.st = .transmitting ∧ t.st = .idle ∧ isDone i = true ∧ s.queue = [])
    ∨ (s.st = .transmitting ∧ t.st = .debouncing ∧ isDone i = true ∧ s.queue ≠ [])
    ∨ (t.st = .idle ∧ isReset i = true)

/-- Outputs are only added: a TXDONE in Transmitting adds one `RESOLVE` for each tag of the batch, in its
order and all with its outcome (42_scheduler.md R114), the tick that ends the delay adds the `TXSTART` of
the current FanState, and nothing else adds anything. -/
def Obligations.OutputsComeOnlyFromExpireAndTxdone : Prop :=
  ∀ (i : Instr) (s t : State), s.Inv → exec i s = .next t → ∃ new, t.outs = s.outs ++ new
    ∧ (∀ out, i = txdoneOf out → s.st = .transmitting →
        new = s.batch.map (fun tag => .resolve tag out))
    ∧ (i = .tick → s.st = .debouncing → s.dtimer = 1 →
        t.st = .transmitting
        ∧ ∃ seq, tenc s.cfg (benc (target s.powered s.speed) s.addr) = some seq
            ∧ new = [.txstart seq])
    ∧ ((∀ out, i = txdoneOf out → s.st ≠ .transmitting) →
        (i = .tick → ¬ (s.st = .debouncing ∧ s.dtimer = 1)) → new = [])

/-- No operation of the block refuses or faults at run time: every well-formed event completes in every
state, and every step answers a next state (60_exceptions.md sections 1 and 4). -/
def Obligations.EveryEventAndEveryStepCompletes : Prop :=
  (∀ (i : Instr) (s : State), i.wellFormed = true → ∃ t, exec i s = .next t)
  ∧ ∀ s : State, ∃ t, step s = .next t

/-- An event that raises one of X1 to X4 does exactly what taking that exception does; X2, X3 and X4 leave
FanState, the Address and the queue alone (60_exceptions.md sections 1 and 4). -/
def Obligations.RaisedErrorIsTakenAndKeepsFanState : Prop :=
  ∀ (i : Instr) (s : State) (cause : Cause), raises i s = some cause →
    exec i s = takeException cause s
    ∧ ∀ t, exec i s = .next t →
        t.powered = s.powered ∧ t.speed = s.speed ∧ t.addr = s.addr ∧ t.queue = s.queue
        ∧ ((cause = .illegalCommand ∨ cause = .spuriousCompletion) → t = s)

/-- Failure fan-out (42_scheduler.md R119): a failed transmission gives every request of its batch the
error, in `RESOLVE` events that copy it, and leaves FanState; the state after it differs from the state
after a success only in those events. -/
def Obligations.FailureReachesEveryRequestOfTheBatch : Prop :=
  ∀ (e : ErrInfo) (s : State), s.st = .transmitting →
    ∃ t t', exec (.txdoneErr e) s = .next t ∧ exec .txdoneOk s = .next t'
      ∧ t.outs = s.outs ++ s.batch.map (fun tag => .resolve tag (.err e))
      ∧ (∀ tag ∈ s.batch, .resolve tag (.err e) ∈ t.outs)
      ∧ (∀ tag, rslvWord (.resolve tag (.err e)) = some { tag := tag, fail := 1#1, info := some e })
      ∧ t.powered = s.powered ∧ t.speed = s.speed
      ∧ t = { t' with outs := t.outs }

/-! ### Invariants -/

/-- Reset, for every configuration the spec allows and every Address, satisfies the invariants and holds
the values of 10_state.md section 9. `State.reset` is one such state; the values of its OPEN parameters are
the model's choice (log entries 4 and 5). -/
def Obligations.ResetStateSatisfiesTheInvariants : Prop :=
  (∀ (c : Config) (a : Address), c.Valid → (State.resetWith c a).Inv
    ∧ (State.resetWith c a).addr = a ∧ (State.resetWith c a).powered = c.resetPowered
    ∧ (State.resetWith c a).speed = c.resetSpeed ∧ (State.resetWith c a).st = .idle
    ∧ (State.resetWith c a).dtimer = 0 ∧ (State.resetWith c a).queue = []
    ∧ (State.resetWith c a).batch = [])
  ∧ State.reset.Inv ∧ State.reset.addr = { a0 := false, a1 := false, a2 := false, a3 := false }

/-- Every step keeps the invariants of 10_state.md section 8, from every state that has them. -/
def Obligations.EveryStepKeepsTheInvariants : Prop :=
  ∀ s t : State, s.Inv → step s = .next t → t.Inv

/-- Every tag accepted is in exactly one place, and in the order of acceptance: over any run without RESET
the tags resolved, followed by the batch and the queue after it, are the batch and the queue before it
followed by the tags requested in it (10_state.md section 8, 42_scheduler.md section 7). -/
def Obligations.EveryTagIsResolvedOnceInOrder : Prop :=
  ∀ (events : List Instr) (s t : State), s.Inv → (∀ i ∈ events, isReset i = false) →
    runEvents events s = .next t →
    ∃ new, t.outs = s.outs ++ new
      ∧ resolvedTags new ++ t.batch ++ t.queue = s.batch ++ s.queue ++ requestTags events

/-- At most one transmission in flight: over any run without RESET the `TXSTART`s emitted and the completions
accepted differ by the transmissions in flight (10_state.md section 8). -/
def Obligations.TransmissionsStartedMatchThoseAnswered : Prop :=
  ∀ (events : List Instr) (s t : State), (∀ i ∈ events, isReset i = false) →
    runEvents events s = .next t →
    ∃ new, t.outs = s.outs ++ new
      ∧ txstartCount new + inFlight s = acceptedDones events s + inFlight t
      ∧ inFlight t ≤ 1

/-- The number of transmissions of a run from reset: at most the number of accepted requests, and at least
one if a request was accepted and the run has come back to Idle (42_scheduler.md section 7). -/
def Obligations.TransmissionsAreNoMoreThanRequests : Prop :=
  ∀ (c : Config) (a : Address) (events : List Instr) (t : State), c.Valid →
    (∀ i ∈ events, isReset i = false) → runEvents events (State.resetWith c a) = .next t →
    txstartCount t.outs ≤ (requestTags events).length
    ∧ (requestTags events ≠ [] → t.st = .idle → 1 ≤ txstartCount t.outs)

/-- At quiescence nothing is owed: a run from reset that has come back to Idle has resolved exactly the tags
requested in it, each once and in order, and holds no request, no batch and no running timer
(70_reset_and_hazards.md section 3). -/
def Obligations.QuiescenceMeansEveryRequestResolved : Prop :=
  ∀ (c : Config) (a : Address) (events : List Instr) (t : State), c.Valid →
    (∀ i ∈ events, isReset i = false) → runEvents events (State.resetWith c a) = .next t →
    quiescent t = true →
    resolvedTags t.outs = requestTags events ∧ t.queue = [] ∧ t.batch = [] ∧ t.dtimer = 0

/-! ### Runs of the scheduler -/

/-- The debounce is not re-triggerable: while fewer ticks than `DTIMER` come, requests only queue, the timer
counts the ticks and nothing is emitted (42_scheduler.md sections 3 and 4). -/
def Obligations.RequestsDoNotRestartTheTimer : Prop :=
  ∀ (events : List Instr) (s : State), s.st = .debouncing →
    (∀ i ∈ events, isRequest i = true ∨ i = .tick) → tickCount events < s.dtimer →
    runEvents events s =
      .next { s with powered := (fanAfter events (s.powered, s.speed)).1,
                     speed := (fanAfter events (s.powered, s.speed)).2,
                     dtimer := s.dtimer - tickCount events,
                     queue := s.queue ++ requestTags events }

/-- Coalescing: a burst that begins in Idle and stays within one window is one transmission, of the FanState
after its last request, and its completion resolves every tag of the burst with one outcome
(42_scheduler.md section 7). -/
def Obligations.BurstInOneWindowIsOneTransmission : Prop :=
  ∀ (s : State) (first : Instr) (rest : List Instr) (out : TxOutcome),
    s.Inv → s.st = .idle → isRequest first = true →
    (∀ i ∈ rest, isRequest i = true ∨ i = .tick) → tickCount rest < s.cfg.debounceTicks →
    ∃ seq, transmission s.cfg (fanAfter (first :: rest) (s.powered, s.speed)).1
        (fanAfter (first :: rest) (s.powered, s.speed)).2 s.addr = some seq
      ∧ runEvents (first :: rest ++ tickTimes (s.cfg.debounceTicks - tickCount rest)) s =
          .next { s with powered := (fanAfter (first :: rest) (s.powered, s.speed)).1,
                         speed := (fanAfter (first :: rest) (s.powered, s.speed)).2,
                         st := .transmitting, batch := requestTags (first :: rest),
                         outs := s.outs ++ [.txstart seq] }
      ∧ runEvents (first :: rest ++ tickTimes (s.cfg.debounceTicks - tickCount rest)
            ++ [txdoneOf out]) s =
          .next { s with powered := (fanAfter (first :: rest) (s.powered, s.speed)).1,
                         speed := (fanAfter (first :: rest) (s.powered, s.speed)).2,
                         outs := s.outs ++ [.txstart seq]
                           ++ (requestTags (first :: rest)).map (fun tag => .resolve tag out) }

/-- Queued during transmission: requests that wait while a transmission is in flight get a second one after
it, of the FanState at that later time, and the first completion resolves none of them
(42_scheduler.md section 7). -/
def Obligations.RequestDuringTransmissionGetsASecondOne : Prop :=
  ∀ (s : State) (requests : List Instr) (out out' : TxOutcome),
    s.Inv → s.st = .transmitting → (∀ i ∈ requests, isRequest i = true) →
    s.queue ++ requestTags requests ≠ [] →
    ∃ seq, transmission s.cfg (fanAfter requests (s.powered, s.speed)).1
        (fanAfter requests (s.powered, s.speed)).2 s.addr = some seq
      ∧ runEvents (requests ++ [txdoneOf out] ++ tickTimes s.cfg.debounceTicks) s =
          .next { s with powered := (fanAfter requests (s.powered, s.speed)).1,
                         speed := (fanAfter requests (s.powered, s.speed)).2,
                         queue := [], batch := s.queue ++ requestTags requests,
                         outs := s.outs ++ s.batch.map (fun tag => .resolve tag out)
                           ++ [.txstart seq] }
      ∧ runEvents (requests ++ [txdoneOf out] ++ tickTimes s.cfg.debounceTicks
            ++ [txdoneOf out']) s =
          .next { s with powered := (fanAfter requests (s.powered, s.speed)).1,
                         speed := (fanAfter requests (s.powered, s.speed)).2,
                         st := .idle, queue := [], batch := [],
                         outs := s.outs ++ s.batch.map (fun tag => .resolve tag out)
                           ++ [.txstart seq]
                           ++ (s.queue ++ requestTags requests).map (fun tag => .resolve tag out') }

/-- Progress: from every state with the invariants, an answer to the transmission in flight, then the ticks
of the window, then an answer, bring the block to Idle with every waiting request resolved
(42_scheduler.md section 7). -/
def Obligations.AnswersAndTicksResolveEveryRequest : Prop :=
  ∀ (s : State) (out out' : TxOutcome), s.Inv →
    ∃ (ticks : Nat) (t : State) (new : List OutEvent), ticks ≤ s.cfg.debounceTicks
      ∧ runEvents ([txdoneOf out] ++ tickTimes ticks ++ [txdoneOf out']) s = .next t
      ∧ t.st = .idle ∧ t.queue = [] ∧ t.batch = [] ∧ t.outs = s.outs ++ new
      ∧ resolvedTags new = s.batch ++ s.queue

/-- A Transmitter that never answers: whatever else comes, but no TXDONE and no RESET, the block stays in
Transmitting, emits nothing, and only the queue grows (70_reset_and_hazards.md section 5). -/
def Obligations.UnansweredTransmissionOnlyGrowsTheQueue : Prop :=
  ∀ (events : List Instr) (s : State), s.st = .transmitting →
    (∀ i ∈ events, isDone i = false ∧ isReset i = false) →
    runEvents events s =
      .next { s with powered := (fanAfter events (s.powered, s.speed)).1,
                     speed := (fanAfter events (s.powered, s.speed)).2,
                     queue := s.queue ++ requestTags events }

/-- A request and a TXDONE commute in every state: same final state, same outputs
(60_exceptions.md section 3). -/
def Obligations.RequestAndCompletionCommute : Prop :=
  ∀ (i : Instr) (out : TxOutcome) (s : State), isRequest i = true →
    runEvents [i, txdoneOf out] s = runEvents [txdoneOf out, i] s

/-- RESET with requests outstanding (70_reset_and_hazards.md section 1): their tags are gone without a
`RESOLVE`, and the stale TXDONE that follows is dropped. -/
def Obligations.ResetDropsOutstandingRequests : Prop :=
  ∀ (bits : List Bool) (out : TxOutcome) (s : State), bits.length = addrLen →
    ∃ t, runEvents [.reset bits] s = .next t ∧ t.queue = [] ∧ t.batch = [] ∧ t.outs = s.outs
      ∧ addressBits t.addr = bits ∧ runEvents [.reset bits, txdoneOf out] s = .next t

/-! ### Steps -/

/-- A step runs the event that the next word decodes to, after taking that word; a word that is no event is
taken and changes nothing else; with nothing presented nothing changes (the last two are the model's, log
entry 16). -/
def Obligations.StepRunsTheDecodedEvent : Prop :=
  ∀ (s : State) (w : PortWord) (rest : List PortWord),
    (∀ i, s.inputs = w :: rest → decode w = .ok i → step s = exec i { s with inputs := rest })
    ∧ (∀ r, s.inputs = w :: rest → decode w = .error r → step s = .next { s with inputs := rest })
    ∧ (s.inputs = [] → step s = .next s)

/-- Presenting the words of a run of well-formed events and stepping once for each is the run: the host's
`run` and the spec's total order of events agree (00_scope.md section 5). -/
def Obligations.SteppingThroughWordsIsTheRun : Prop :=
  ∀ (events : List Instr) (s : State), (∀ i ∈ events, i.wellFormed = true) →
    Host.Core.run Sys2Proof.core events.length { s with inputs := events.map encode } =
      runEvents events { s with inputs := [] }

/-- Words presented in one cycle are taken REQ, then TXR, then TICK, each as a complete step, for every
combination of the three ports that present one: a port that presents none takes no step, and a cycle
without a word changes nothing. RESET overrides all three and the others are lost
(60_exceptions.md section 3). -/
def Obligations.OneCycleIsTakenInTheFixedOrder : Prop :=
  (∀ (c : Cycle) (s : State) (i d : Instr), c.rst = 0#1 → s.inputs = [] →
    decode (.req c.reqCmd c.reqTag) = .ok i → decode (.txr c.txrFail c.txrInfo) = .ok d →
    ∀ events : List Instr,
      events = (if c.reqValid = true then [i] else []) ++ (if c.txrValid = true then [d] else [])
        ++ (if c.tick = 1#1 then [.tick] else []) →
      Host.Core.run Sys2Proof.core events.length (present c s) = runEvents events s)
  ∧ ∀ (c : Cycle) (s : State), c.rst = 1#1 → s.inputs = [] →
      step (present c s) = exec (.reset (cfgAddrBits c.cfgAddr)) s

/-- Tags and error values are never inspected: renaming them in the state and in everything presented, by any
functions whatever, renames them in the next state and changes nothing else (30_encoding.md sections 3 and
6, 10_state.md section 4). -/
def Obligations.StepNeverInspectsTagsOrErrors : Prop :=
  ∀ (f : Tag → Tag) (g : ErrInfo → ErrInfo) (s t : State),
    step s = .next t → step (renameState f g s) = .next (renameState f g t)

/-! ### The boundary -/

/-- The percent values of the Levels (43_boundary.md R128), and `SNAP` on a rational percent from 0 to 100
(R129): 0 gives OFF, below 37.5 LOW, below 75 MEDIUM, else HIGH, so that a threshold takes the higher
Level. -/
def Obligations.SnapFollowsTheStrictThresholds : Prop :=
  pct .off = 0 ∧ pct .low = 25 ∧ pct .medium = 50 ∧ pct .high = 100
  ∧ ∀ num den : Nat, 0 < den → num ≤ 100 * den →
    (snapRatio num den = some .off ↔ num = 0)
    ∧ (snapRatio num den = some .low ↔ 0 < num ∧ (num : ℚ) / den < 75 / 2)
    ∧ (snapRatio num den = some .medium ↔ 75 / 2 ≤ (num : ℚ) / den ∧ (num : ℚ) / den < 75)
    ∧ (snapRatio num den = some .high ↔ 75 ≤ (num : ℚ) / den)

/-- The Transmitter's reading of a reply (43_boundary.md section 2), as the decision list in its order; a
success is exactly a response below 400 whose status field is the marker. That the marker is compared letter
for letter, and that every status below 400 with it is a success, is DEDUCED (log entry 20;
91_not_in_source.md N10 leaves both open). A body without a message still fails, with the latency and some
message, which is free. -/
def Obligations.TransmitterOutcomeFollowsTheDecisionList : Prop :=
  (∀ text latency, outcomeOf (.transportError text latency) = .err { message := text, latency := latency })
  ∧ (∀ status statusText bs bm latency, 400 ≤ status →
      outcomeOf (.response status statusText bs bm latency)
        = .err { message := statusText, latency := latency })
  ∧ (∀ status statusText bs m latency, status < 400 → bs ≠ some "success" →
      outcomeOf (.response status statusText bs (some m) latency)
        = .err { message := m, latency := latency })
  ∧ (∀ status statusText bs latency, status < 400 → bs ≠ some "success" →
      ∃ m, outcomeOf (.response status statusText bs none latency)
        = .err { message := m, latency := latency })
  ∧ ∀ r, outcomeOf r = .ok ↔
      ∃ status statusText bm latency, status < 400
        ∧ r = .response status statusText (some "success") bm latency
end

