-- ==== Sys2Proof/Laws/Encoders.lean ====
section
/-! SUPPORT. Small lemmas of the encoders: lengths, non-emptiness, and that the block's own words always
have a transmission. -/

namespace Sys2Proof.Machine

@[simp] theorem addressBits_length (a : Address) : (addressBits a).length = 4 := rfl

@[simp] theorem addressOf_addressBits (a : Address) : addressOf (addressBits a) = some a := rfl

/-- The construction-time check accepts exactly the sequences of `ADDR_LEN` elements, element by element. -/
theorem addressOf_eq_some_iff (bits : List Bool) (a : Address) :
    addressOf bits = some a ↔ bits = addressBits a := by
  constructor
  · intro h
    match bits, h with
    | [b0, b1, b2, b3], h => simp only [addressOf, Option.some.injEq] at h; subst h; rfl
  · rintro rfl; rfl

theorem addressOf_eq_none_iff (bits : List Bool) : addressOf bits = none ↔ bits.length ≠ addrLen := by
  match bits with
  | [] => simp [addressOf, addrLen]
  | [_] => simp [addressOf, addrLen]
  | [_, _] => simp [addressOf, addrLen]
  | [_, _, _] => simp [addressOf, addrLen]
  | [_, _, _, _] => simp [addressOf, addrLen]
  | _ :: _ :: _ :: _ :: _ :: _ => simp [addressOf, addrLen]

@[simp] theorem oneHot_length (b : Button) : (oneHot b).length = btnBits := by simp [oneHot]

theorem benc_ne_nil (b : Button) (a : Address) : benc b a ≠ [] := by
  intro h
  have : (benc b a).length = 0 := by rw [h]; rfl
  simp [benc, bencBits, btnBits] at this

@[simp] theorem sym_length (c : Config) (bit : Bool) : (sym c bit).length = 2 := by
  cases bit <;> rfl

/-- The pairs of a word, two durations a bit. -/
theorem flatMap_sym_length (c : Config) (w : BitWord) : (w.flatMap (sym c)).length = 2 * w.length := by
  induction w with
  | nil => rfl
  | cons b bs ih => simp only [List.flatMap_cons, List.length_append, sym_length, ih, List.length_cons]; omega

/-- `FRAME` of a non-empty word. -/
theorem frame_of_ne_nil (c : Config) {w : BitWord} (h : w ≠ []) :
    frame c w = some ([syncDur c] ++ w.flatMap (sym c) ++ [pilotDur c]) := by
  cases w with
  | nil => exact absurd rfl h
  | cons b bs => rfl

/-- `TENC` from `FRAME`. -/
theorem tenc_of_frame (c : Config) {w : BitWord} {f : List Nat} (h : frame c w = some f) :
    tenc c w = some (rep c.repeatCount f) := by
  simp [tenc, h]

/-- The digits found so far stay behind those still to come. -/
theorem decimalAux_append (fuel n : Nat) (acc : List Char) :
    decimalAux fuel n acc = decimalAux fuel n [] ++ acc := by
  induction fuel generalizing n acc with
  | zero => rfl
  | succ fuel ih =>
    by_cases h : n < 10
    · simp [decimalAux, h]
    · simp only [decimalAux, h, if_false]
      rw [ih, ih (n / 10) [_], List.append_assoc]
      rfl

/-- The block's transmission always has a value: `BENC` gives a word of 12 bits (42_scheduler.md R111). -/
theorem transmission_exists (c : Config) (p : Bool) (l : Level) (a : Address) :
    ∃ seq, transmission c p l a = some seq :=
  ⟨_, tenc_of_frame c (frame_of_ne_nil c (benc_ne_nil (target p l) a))⟩

end Sys2Proof.Machine
end

