-- ==== Sys2Proof/Laws/State.lean ====
section
/-! SUPPORT. One lemma for each field of State after each named update, so that no later proof unfolds an
update. -/

namespace Sys2Proof.Machine

/-! ### setPowered -/

@[simp] theorem setPowered_addr (on : Bool) (s : State) : (setPowered on s).addr = s.addr := rfl
@[simp] theorem setPowered_powered (on : Bool) (s : State) : (setPowered on s).powered = on := rfl
@[simp] theorem setPowered_speed (on : Bool) (s : State) : (setPowered on s).speed = s.speed := rfl
@[simp] theorem setPowered_st (on : Bool) (s : State) : (setPowered on s).st = s.st := rfl
@[simp] theorem setPowered_dtimer (on : Bool) (s : State) : (setPowered on s).dtimer = s.dtimer := rfl
@[simp] theorem setPowered_queue (on : Bool) (s : State) : (setPowered on s).queue = s.queue := rfl
@[simp] theorem setPowered_batch (on : Bool) (s : State) : (setPowered on s).batch = s.batch := rfl
@[simp] theorem setPowered_cfg (on : Bool) (s : State) : (setPowered on s).cfg = s.cfg := rfl
@[simp] theorem setPowered_inputs (on : Bool) (s : State) : (setPowered on s).inputs = s.inputs := rfl
@[simp] theorem setPowered_outs (on : Bool) (s : State) : (setPowered on s).outs = s.outs := rfl

/-! ### setSpeed -/

@[simp] theorem setSpeed_addr (lvl : Level) (s : State) : (setSpeed lvl s).addr = s.addr := rfl
@[simp] theorem setSpeed_powered (lvl : Level) (s : State) : (setSpeed lvl s).powered = s.powered := rfl
@[simp] theorem setSpeed_speed (lvl : Level) (s : State) : (setSpeed lvl s).speed = lvl := rfl
@[simp] theorem setSpeed_st (lvl : Level) (s : State) : (setSpeed lvl s).st = s.st := rfl
@[simp] theorem setSpeed_dtimer (lvl : Level) (s : State) : (setSpeed lvl s).dtimer = s.dtimer := rfl
@[simp] theorem setSpeed_queue (lvl : Level) (s : State) : (setSpeed lvl s).queue = s.queue := rfl
@[simp] theorem setSpeed_batch (lvl : Level) (s : State) : (setSpeed lvl s).batch = s.batch := rfl
@[simp] theorem setSpeed_cfg (lvl : Level) (s : State) : (setSpeed lvl s).cfg = s.cfg := rfl
@[simp] theorem setSpeed_inputs (lvl : Level) (s : State) : (setSpeed lvl s).inputs = s.inputs := rfl
@[simp] theorem setSpeed_outs (lvl : Level) (s : State) : (setSpeed lvl s).outs = s.outs := rfl

/-! ### enqueue -/

@[simp] theorem enqueue_addr (tag : Tag) (s : State) : (enqueue tag s).addr = s.addr := rfl
@[simp] theorem enqueue_powered (tag : Tag) (s : State) : (enqueue tag s).powered = s.powered := rfl
@[simp] theorem enqueue_speed (tag : Tag) (s : State) : (enqueue tag s).speed = s.speed := rfl
@[simp] theorem enqueue_st (tag : Tag) (s : State) : (enqueue tag s).st = s.st := rfl
@[simp] theorem enqueue_dtimer (tag : Tag) (s : State) : (enqueue tag s).dtimer = s.dtimer := rfl
@[simp] theorem enqueue_queue (tag : Tag) (s : State) : (enqueue tag s).queue = s.queue ++ [tag] := rfl
@[simp] theorem enqueue_batch (tag : Tag) (s : State) : (enqueue tag s).batch = s.batch := rfl
@[simp] theorem enqueue_cfg (tag : Tag) (s : State) : (enqueue tag s).cfg = s.cfg := rfl
@[simp] theorem enqueue_inputs (tag : Tag) (s : State) : (enqueue tag s).inputs = s.inputs := rfl
@[simp] theorem enqueue_outs (tag : Tag) (s : State) : (enqueue tag s).outs = s.outs := rfl

/-! ### startTimer -/

@[simp] theorem startTimer_addr (s : State) : (startTimer s).addr = s.addr := rfl
@[simp] theorem startTimer_powered (s : State) : (startTimer s).powered = s.powered := rfl
@[simp] theorem startTimer_speed (s : State) : (startTimer s).speed = s.speed := rfl
@[simp] theorem startTimer_st (s : State) : (startTimer s).st = .debouncing := rfl
@[simp] theorem startTimer_dtimer (s : State) : (startTimer s).dtimer = s.cfg.debounceTicks := rfl
@[simp] theorem startTimer_queue (s : State) : (startTimer s).queue = s.queue := rfl
@[simp] theorem startTimer_batch (s : State) : (startTimer s).batch = s.batch := rfl
@[simp] theorem startTimer_cfg (s : State) : (startTimer s).cfg = s.cfg := rfl
@[simp] theorem startTimer_inputs (s : State) : (startTimer s).inputs = s.inputs := rfl
@[simp] theorem startTimer_outs (s : State) : (startTimer s).outs = s.outs := rfl

/-! ### countDown -/

@[simp] theorem countDown_addr (s : State) : (countDown s).addr = s.addr := rfl
@[simp] theorem countDown_powered (s : State) : (countDown s).powered = s.powered := rfl
@[simp] theorem countDown_speed (s : State) : (countDown s).speed = s.speed := rfl
@[simp] theorem countDown_st (s : State) : (countDown s).st = s.st := rfl
@[simp] theorem countDown_dtimer (s : State) : (countDown s).dtimer = s.dtimer - 1 := rfl
@[simp] theorem countDown_queue (s : State) : (countDown s).queue = s.queue := rfl
@[simp] theorem countDown_batch (s : State) : (countDown s).batch = s.batch := rfl
@[simp] theorem countDown_cfg (s : State) : (countDown s).cfg = s.cfg := rfl
@[simp] theorem countDown_inputs (s : State) : (countDown s).inputs = s.inputs := rfl
@[simp] theorem countDown_outs (s : State) : (countDown s).outs = s.outs := rfl

/-! ### snapshot -/

@[simp] theorem snapshot_addr (s : State) : (snapshot s).addr = s.addr := rfl
@[simp] theorem snapshot_powered (s : State) : (snapshot s).powered = s.powered := rfl
@[simp] theorem snapshot_speed (s : State) : (snapshot s).speed = s.speed := rfl
@[simp] theorem snapshot_st (s : State) : (snapshot s).st = .transmitting := rfl
@[simp] theorem snapshot_dtimer (s : State) : (snapshot s).dtimer = 0 := rfl
@[simp] theorem snapshot_queue (s : State) : (snapshot s).queue = [] := rfl
@[simp] theorem snapshot_batch (s : State) : (snapshot s).batch = s.queue := rfl
@[simp] theorem snapshot_cfg (s : State) : (snapshot s).cfg = s.cfg := rfl
@[simp] theorem snapshot_inputs (s : State) : (snapshot s).inputs = s.inputs := rfl
@[simp] theorem snapshot_outs (s : State) : (snapshot s).outs = s.outs := rfl

/-! ### clearBatch -/

@[simp] theorem clearBatch_addr (s : State) : (clearBatch s).addr = s.addr := rfl
@[simp] theorem clearBatch_powered (s : State) : (clearBatch s).powered = s.powered := rfl
@[simp] theorem clearBatch_speed (s : State) : (clearBatch s).speed = s.speed := rfl
@[simp] theorem clearBatch_st (s : State) : (clearBatch s).st = s.st := rfl
@[simp] theorem clearBatch_dtimer (s : State) : (clearBatch s).dtimer = s.dtimer := rfl
@[simp] theorem clearBatch_queue (s : State) : (clearBatch s).queue = s.queue := rfl
@[simp] theorem clearBatch_batch (s : State) : (clearBatch s).batch = [] := rfl
@[simp] theorem clearBatch_cfg (s : State) : (clearBatch s).cfg = s.cfg := rfl
@[simp] theorem clearBatch_inputs (s : State) : (clearBatch s).inputs = s.inputs := rfl
@[simp] theorem clearBatch_outs (s : State) : (clearBatch s).outs = s.outs := rfl

/-! ### goIdle -/

@[simp] theorem goIdle_addr (s : State) : (goIdle s).addr = s.addr := rfl
@[simp] theorem goIdle_powered (s : State) : (goIdle s).powered = s.powered := rfl
@[simp] theorem goIdle_speed (s : State) : (goIdle s).speed = s.speed := rfl
@[simp] theorem goIdle_st (s : State) : (goIdle s).st = .idle := rfl
@[simp] theorem goIdle_dtimer (s : State) : (goIdle s).dtimer = s.dtimer := rfl
@[simp] theorem goIdle_queue (s : State) : (goIdle s).queue = s.queue := rfl
@[simp] theorem goIdle_batch (s : State) : (goIdle s).batch = s.batch := rfl
@[simp] theorem goIdle_cfg (s : State) : (goIdle s).cfg = s.cfg := rfl
@[simp] theorem goIdle_inputs (s : State) : (goIdle s).inputs = s.inputs := rfl
@[simp] theorem goIdle_outs (s : State) : (goIdle s).outs = s.outs := rfl

/-! ### emit -/

@[simp] theorem emit_addr (events : List OutEvent) (s : State) : (emit events s).addr = s.addr := rfl
@[simp] theorem emit_powered (events : List OutEvent) (s : State) : (emit events s).powered = s.powered := rfl
@[simp] theorem emit_speed (events : List OutEvent) (s : State) : (emit events s).speed = s.speed := rfl
@[simp] theorem emit_st (events : List OutEvent) (s : State) : (emit events s).st = s.st := rfl
@[simp] theorem emit_dtimer (events : List OutEvent) (s : State) : (emit events s).dtimer = s.dtimer := rfl
@[simp] theorem emit_queue (events : List OutEvent) (s : State) : (emit events s).queue = s.queue := rfl
@[simp] theorem emit_batch (events : List OutEvent) (s : State) : (emit events s).batch = s.batch := rfl
@[simp] theorem emit_cfg (events : List OutEvent) (s : State) : (emit events s).cfg = s.cfg := rfl
@[simp] theorem emit_inputs (events : List OutEvent) (s : State) : (emit events s).inputs = s.inputs := rfl
@[simp] theorem emit_outs (events : List OutEvent) (s : State) : (emit events s).outs = s.outs ++ events := rfl

/-! ### resetRegisters -/

@[simp] theorem resetRegisters_addr (a : Address) (s : State) : (resetRegisters a s).addr = a := rfl
@[simp] theorem resetRegisters_powered (a : Address) (s : State) : (resetRegisters a s).powered = s.cfg.resetPowered := rfl
@[simp] theorem resetRegisters_speed (a : Address) (s : State) : (resetRegisters a s).speed = s.cfg.resetSpeed := rfl
@[simp] theorem resetRegisters_st (a : Address) (s : State) : (resetRegisters a s).st = .idle := rfl
@[simp] theorem resetRegisters_dtimer (a : Address) (s : State) : (resetRegisters a s).dtimer = 0 := rfl
@[simp] theorem resetRegisters_queue (a : Address) (s : State) : (resetRegisters a s).queue = [] := rfl
@[simp] theorem resetRegisters_batch (a : Address) (s : State) : (resetRegisters a s).batch = [] := rfl
@[simp] theorem resetRegisters_cfg (a : Address) (s : State) : (resetRegisters a s).cfg = s.cfg := rfl
@[simp] theorem resetRegisters_inputs (a : Address) (s : State) : (resetRegisters a s).inputs = s.inputs := rfl
@[simp] theorem resetRegisters_outs (a : Address) (s : State) : (resetRegisters a s).outs = s.outs := rfl

/-! ### setInputs -/

@[simp] theorem setInputs_addr (words : List PortWord) (s : State) : (setInputs words s).addr = s.addr := rfl
@[simp] theorem setInputs_powered (words : List PortWord) (s : State) : (setInputs words s).powered = s.powered := rfl
@[simp] theorem setInputs_speed (words : List PortWord) (s : State) : (setInputs words s).speed = s.speed := rfl
@[simp] theorem setInputs_st (words : List PortWord) (s : State) : (setInputs words s).st = s.st := rfl
@[simp] theorem setInputs_dtimer (words : List PortWord) (s : State) : (setInputs words s).dtimer = s.dtimer := rfl
@[simp] theorem setInputs_queue (words : List PortWord) (s : State) : (setInputs words s).queue = s.queue := rfl
@[simp] theorem setInputs_batch (words : List PortWord) (s : State) : (setInputs words s).batch = s.batch := rfl
@[simp] theorem setInputs_cfg (words : List PortWord) (s : State) : (setInputs words s).cfg = s.cfg := rfl
@[simp] theorem setInputs_inputs (words : List PortWord) (s : State) : (setInputs words s).inputs = words := rfl
@[simp] theorem setInputs_outs (words : List PortWord) (s : State) : (setInputs words s).outs = s.outs := rfl

end Sys2Proof.Machine
end

