-- ==== Sys2Proof/Laws/Ops.lean ====
section
/-! SUPPORT. For each shared operation, once, everything it can do. -/

namespace Sys2Proof.Machine

/-- `REQ_COMMON` starts the timer from Idle and only queues the tag elsewhere (42_scheduler.md R106). -/
theorem reqCommon_cases (tag : Tag) (s : State) :
    (s.st = .idle ∧ reqCommon tag s = startTimer (enqueue tag s))
    ∨ (s.st ≠ .idle ∧ reqCommon tag s = enqueue tag s) := by
  cases h : s.st <;> simp [reqCommon, h]

/-- The fields `REQ_COMMON` never writes. -/
theorem reqCommon_frame (tag : Tag) (s : State) :
    (reqCommon tag s).addr = s.addr ∧ (reqCommon tag s).powered = s.powered
    ∧ (reqCommon tag s).speed = s.speed ∧ (reqCommon tag s).queue = s.queue ++ [tag]
    ∧ (reqCommon tag s).batch = s.batch ∧ (reqCommon tag s).cfg = s.cfg
    ∧ (reqCommon tag s).inputs = s.inputs ∧ (reqCommon tag s).outs = s.outs := by
  rcases reqCommon_cases tag s with ⟨_, h⟩ | ⟨_, h⟩ <;> simp [h]

/-- After a completed batch the block goes to Idle or starts a fresh timer, as the queue says
(42_scheduler.md R113). -/
theorem followUp_cases (s : State) :
    (s.queue = [] ∧ followUp s = goIdle s) ∨ (s.queue ≠ [] ∧ followUp s = startTimer s) := by
  cases h : s.queue <;> simp [followUp, h]

/-- A completion resolves the batch, clears it, and goes on as the queue says (42_scheduler.md R113). -/
theorem complete_cases (out : TxOutcome) (s : State) :
    (s.queue = [] ∧ complete out s = goIdle (clearBatch (emit (resolveAll s.batch out) s)))
    ∨ (s.queue ≠ [] ∧ complete out s = startTimer (clearBatch (emit (resolveAll s.batch out) s))) := by
  rcases followUp_cases (clearBatch (emit (resolveAll s.batch out) s)) with ⟨hq, h⟩ | ⟨hq, h⟩
  · exact .inl ⟨by simpa using hq, h⟩
  · exact .inr ⟨by simpa using hq, h⟩

/-- The fields a completion never writes, and those it writes alike for every outcome. -/
theorem complete_frame (out : TxOutcome) (s : State) :
    (complete out s).addr = s.addr ∧ (complete out s).powered = s.powered
    ∧ (complete out s).speed = s.speed ∧ (complete out s).queue = s.queue
    ∧ (complete out s).batch = [] ∧ (complete out s).cfg = s.cfg
    ∧ (complete out s).inputs = s.inputs
    ∧ (complete out s).outs = s.outs ++ resolveAll s.batch out := by
  rcases complete_cases out s with ⟨_, h⟩ | ⟨_, h⟩ <;> simp [h]

/-- EXPIRE always answers a next state: the snapshot, with one `TXSTART` (42_scheduler.md R111). -/
theorem expire_next (s : State) : ∃ seq, transmission s.cfg s.powered s.speed s.addr = some seq
    ∧ expire s = .next (emit [.txstart seq] (snapshot s)) := by
  obtain ⟨seq, h⟩ := transmission_exists s.cfg s.powered s.speed s.addr
  exact ⟨seq, h, by simp [expire, h]⟩

@[simp] theorem takeException_transmitError (info : ErrInfo) (s : State) :
    takeException (.transmitError info) s = .next (complete (.err info) s) := rfl

@[simp] theorem takeException_illegalCommand (s : State) :
    takeException .illegalCommand s = .next s := rfl

@[simp] theorem takeException_spuriousCompletion (s : State) :
    takeException .spuriousCompletion s = .next s := rfl

@[simp] theorem takeException_encodingPrecondition (s : State) :
    takeException .encodingPrecondition s = .refused .encodingPrecondition := rfl

/-- The events of two batches in a row. -/
theorem resolveAll_append (xs ys : List Tag) (out : TxOutcome) :
    resolveAll (xs ++ ys) out = resolveAll xs out ++ resolveAll ys out := by
  simp [resolveAll]

end Sys2Proof.Machine
end

