-- ==== Sys2Proof/Laws/PerInstr.lean ====
section
/-! SUPPORT. One lemma per constructor of Instr: the encoder's word stands on the port of the event's row
and matches the row's mask and match of spec/opcode_table.json (30_encoding.md R59). -/

namespace Sys2Proof.Laws.TableRow

/-- The input ports (30_encoding.md R50). -/
inductive Port where
  | req
  | tick
  | txr
  | rst
deriving DecidableEq, Repr

/-- A row of the opcode table: its port, its mask and its match. -/
structure Row where
  port : Port
  mask : Nat
  pattern : Nat
deriving DecidableEq, Repr

/-- The row of an event. -/
def rowOf : Instr → Row
  | .setpwr _ _ => { port := .req, mask := 0b110, pattern := 0b000 }
  | .setspd _ _ => { port := .req, mask := 0b100, pattern := 0b100 }
  | .badcmd _ _ => { port := .req, mask := 0b110, pattern := 0b010 }
  | .tick => { port := .tick, mask := 0b1, pattern := 0b1 }
  | .txdoneOk => { port := .txr, mask := 0b1, pattern := 0b0 }
  | .txdoneErr _ => { port := .txr, mask := 0b1, pattern := 0b1 }
  | .reset _ => { port := .rst, mask := 0b1, pattern := 0b1 }

/-- The port a word stands on. -/
def portOf : PortWord → Port
  | .req _ _ => .req
  | .tick _ => .tick
  | .txr _ _ => .txr
  | .rst _ _ => .rst

/-- The bits of a word, bit 0 the least significant. -/
def bitsOf : PortWord → Nat
  | .req cmd _ => cmd.toNat
  | .tick word => word.toNat
  | .txr fail _ => fail.toNat
  | .rst word _ => word.toNat

/-- The encoder's word of a well-formed event is on its row's port and matches its row's pattern. -/
def Statement (i : Instr) : Prop :=
  i.wellFormed = true →
    portOf (encode i) = (rowOf i).port
    ∧ bitsOf (encode i) &&& (rowOf i).mask = (rowOf i).pattern

theorem setpwr (on : Bool) (tag : Tag) : Statement (.setpwr on tag) := by
  intro _
  cases on <;> simp [portOf, bitsOf, rowOf, encode]

theorem setspd (lvl : Level) (tag : Tag) : Statement (.setspd lvl tag) := by
  intro _
  cases lvl <;> simp [portOf, bitsOf, rowOf, encode, levelCode]

theorem badcmd (word : BitVec 3) (tag : Tag) : Statement (.badcmd word tag) := by
  intro h
  simp only [Instr.wellFormed, isReservedWord, Bool.or_eq_true, beq_iff_eq] at h
  rcases h with rfl | rfl <;> simp [portOf, bitsOf, rowOf, encode]

theorem tick : Statement .tick := fun _ => ⟨rfl, by decide⟩

theorem txdoneOk : Statement .txdoneOk := fun _ => ⟨rfl, by decide⟩

theorem txdoneErr (info : ErrInfo) : Statement (.txdoneErr info) := by
  intro _
  simp [portOf, bitsOf, rowOf, encode]

theorem reset (cfgAddr : List Bool) : Statement (.reset cfgAddr) := by
  intro _
  simp [portOf, bitsOf, rowOf, encode]

end Sys2Proof.Laws.TableRow
end

