-- ==== Sys2Proof/Laws/Ports.lean ====
section
/-! SUPPORT. Presenting words and taking them. -/

namespace Sys2Proof.Machine

/-- What fetching does: with nothing presented nothing, else the first word is taken. -/
theorem fetch_cases (s : State) :
    (s.inputs = [] ∧ fetch s = none)
    ∨ ∃ w rest, s.inputs = w :: rest ∧ fetch s = some (w, setInputs rest s) := by
  cases h : s.inputs with
  | nil => exact .inl ⟨rfl, by simp [fetch, h]⟩
  | cons w rest => exact .inr ⟨w, rest, rfl, by simp [fetch, h]⟩

/-- Presenting a cycle adds its words behind those presented before and changes nothing else. -/
theorem present_frame (c : Cycle) (s : State) :
    present c s = { s with inputs := s.inputs ++ cycleWords c } := rfl

/-- The words of a cycle without RESET: those of the ports that present one, in the fixed order. -/
theorem cycleWords_of_no_reset {c : Cycle} (h : c.rst = 0#1) :
    cycleWords c = (if c.reqValid = true then [.req c.reqCmd c.reqTag] else [])
      ++ (if c.txrValid = true then [.txr c.txrFail c.txrInfo] else [])
      ++ (if c.tick = 1#1 then [.tick 1#1] else []) := by
  by_cases ht : c.tick = 1#1 <;> simp [cycleWords, h, ht]

/-- The words of a cycle with RESET: that one alone. -/
theorem cycleWords_of_reset {c : Cycle} (h : c.rst = 1#1) : cycleWords c = [.rst 1#1 c.cfgAddr] := by
  simp [cycleWords, h]

/-- `withFetchWord` puts one word ahead of the others and changes nothing else. -/
theorem withFetchWord_cases (s : State) (nbits w : Nat) :
    (∃ word, tableWord nbits w = some word
      ∧ s.withFetchWord nbits w = { s with inputs := word :: s.inputs })
    ∨ (tableWord nbits w = none ∧ s.withFetchWord nbits w = s) := by
  cases h : tableWord nbits w with
  | none => exact .inr ⟨rfl, by simp [State.withFetchWord, presentTableWord, h]⟩
  | some word => exact .inl ⟨word, rfl, by simp [State.withFetchWord, presentTableWord, h, setInputs]⟩

end Sys2Proof.Machine
end

