-- ==== Sys2Proof/Tests/Slice0.lean ====
section
/-! SUPPORT. Tests of single operations, with expected values from 95_test_vectors.md and the tables of spec/,
and for each statement with hypotheses a state and operands that meet them. -/

open Sys2Proof Sys2Proof.Machine

namespace Sys2Proof.Tests

/-- A configuration with `D` = 2, as in 95_test_vectors.md B9. -/
def cfg2 : Config :=
  { t := 225, repeatCount := 5, debounceTicks := 2, resetPowered := false, resetSpeed := .off }

/-- An Address from four bits. -/
def adr (b0 b1 b2 b3 : Bool) : Address := { a0 := b0, a1 := b1, a2 := b2, a3 := b3 }

/-- A state written as the vectors write it: `(POWERED, SPEED, ST, DTIMER, QUEUE, BATCH)`. -/
def mk (p : Bool) (l : Level) (st : Sched) (d : Nat) (q b : List Tag) : State :=
  { addr := adr false false false false, powered := p, speed := l, st := st, dtimer := d, queue := q,
    batch := b, cfg := cfg2, inputs := [], outs := [] }

/-- The state after, if there is one. -/
def after : Host.Outcome State Fault Refusal → Option State
  | .next t => some t
  | .fault _ => none
  | .refused _ => none

/-- A failure of the Transmitter. -/
def e1 : ErrInfo := { message := "down", latency := 7 }

/-- Bits from digits, index 0 leftmost (20_memory.md R36). -/
def bits (s : List Nat) : List Bool := s.map (fun n => n == 1)

/-! ### Ill-formed terms -/

theorem test_wellFormed_refuses_badcmd_of_a_request_word :
    (Instr.badcmd 0b001#3 5).wellFormed = false := by decide

theorem test_wellFormed_refuses_short_and_long_address :
    (Instr.reset [true, false, true]).wellFormed = false
    ∧ (Instr.reset [true, false, true, true, false]).wellFormed = false := by decide

/-! ### Decoding of words written out from 30_encoding.md -/

theorem test_decode_setpwr : decode (.req 0b001#3 7) = .ok (.setpwr true 7) := by decide
theorem test_decode_setspd : decode (.req 0b110#3 8) = .ok (.setspd .medium 8) := by decide
theorem test_decode_badcmd : decode (.req 0b010#3 5) = .ok (.badcmd 0b010#3 5) := by decide
theorem test_decode_tick : decode (.tick 1#1) = .ok .tick := by decide
theorem test_decode_txdone_ok : decode (.txr 0#1 e1) = .ok .txdoneOk := by decide
theorem test_decode_txdone_err : decode (.txr 1#1 e1) = .ok (.txdoneErr e1) := by decide

/-- `cfg_addr` bit 0 is `ADDR[0]`: wires 3..0 = 1001 with bit 1 set too give [1,1,0,1]. -/
theorem test_decode_reset : decode (.rst 1#1 0b1011#4) = .ok (.reset [true, true, false, true]) := by
  decide

theorem test_decode_no_event :
    decode (.tick 0#1) = .error .noTick ∧ decode (.rst 0#1 0b1111#4) = .error .noReset := by decide

theorem test_decodeTableWord :
    decodeTableWord 8 0b000 = some (.setpwr false 0) ∧ decodeTableWord 8 0b010 = some (.badcmd 0b010#3 0)
    ∧ decodeTableWord 8 0b101 = some (.setspd .low 0) ∧ decodeTableWord 8 8 = none := by decide

/-! ### The encoders -/

/-- V11, V14. -/
theorem test_benc :
    benc .reverse (adr true false true true) = bits [0,0,0,0,0,0,0,1,1,0,1,1]
    ∧ benc .off (adr true false false true) = bits [0,0,0,0,0,1,0,0,1,0,0,1] := by decide

/-- V15. -/
theorem test_bencPin_refuses_six :
    (match bencPin 6 (adr false false false false) with | .ok _ => false | .error _ => true) = true := by
  decide

/-- V27, V28, V29. -/
theorem test_frame_of_one_bit :
    frame cfg2 [true] = some [225, 450, 225, 4500] ∧ frame cfg2 [false] = some [225, 225, 450, 4500]
    ∧ frame cfg2 [] = none := by decide

/-- V32: LOW at [1,0,1,0]. -/
theorem test_frame_low :
    frame cfg2 (benc .low (adr true false true false)) =
      some [225, 450, 225, 225, 450, 225, 450, 225, 450, 225, 450, 225, 450, 225, 450, 225, 450,
            450, 225, 225, 450, 450, 225, 225, 450, 4500] := by decide

set_option maxRecDepth 4000 in
/-- V36, V39, V41. -/
theorem test_tenc_medium :
    (tenc cfg2 (benc .medium (adr false false false false))).map
        (fun s => (s.length, airTime s, [7, 8, 33, 34, 129].map (fun k => s[k]?)))
      = some (130, 64125, [some 450, some 225, some 450, some 225, some 4500]) := by decide

/-- V32's marks: 22T. -/
theorem test_marks :
    ((frame cfg2 (benc .low (adr true false true false))).map (fun f => (markSpaceTime true f).1))
      = some 4950 := by decide

/-- The words of V44, V45 and V50. -/
theorem test_formatX :
    [0, 1, 3, 4].map (formatX [225, 225, 450, 4500])
      = [some 0x100E1#18, some 0x000E1#18, some 0x21194#18, none] := by decide

/-- 41_timing_encoder.md R100. -/
theorem test_rawCodeChars :
    rawCodeChars [225, 450, 4500] =
      [Char.ofNat 34, '2', '2', '5', ' ', '4', '5', '0', ' ', '4', '5', '0', '0', Char.ofNat 34]
    ∧ decimal 0 = ['0'] := by decide

/-- V60 to V69. -/
theorem test_snap :
    [0, 10, 37, 38, 62, 63, 74, 75, 100].map snap =
      [some .off, some .low, some .low, some .medium, some .medium, some .medium, some .medium,
       some .high, some .high]
    ∧ snapRatio 75 2 = some .medium ∧ snap 101 = none
    ∧ [Level.off, .low, .medium, .high].map (fun l => snap (pct l))
        = [some .off, some .low, some .medium, some .high] := by decide

/-! ### One step of each operation -/

/-- V70. -/
theorem test_setpwr_from_idle :
    after (exec (.setpwr true 7) (mk false .low .idle 0 [] [])) = some (mk true .low .debouncing 2 [7] [])
    := by decide

/-- V74: `DTIMER` is not reloaded. -/
theorem test_setpwr_in_debouncing :
    after (exec (.setpwr false 8) (mk true .low .debouncing 1 [7] []))
      = some (mk false .low .debouncing 1 [7, 8] []) := by decide

/-- V71. -/
theorem test_setspd_from_idle :
    after (exec (.setspd .high 7) (mk true .low .idle 0 [] [])) = some (mk true .high .debouncing 2 [7] [])
    := by decide

/-- V80. -/
theorem test_setspd_in_transmitting :
    after (exec (.setspd .low 9) (mk true .medium .transmitting 0 [] [7, 8]))
      = some (mk true .low .transmitting 0 [9] [7, 8]) := by decide

/-- V76. -/
theorem test_tick_counts_down :
    after (exec .tick (mk true .medium .debouncing 2 [7, 8] []))
      = some (mk true .medium .debouncing 1 [7, 8] []) := by decide

/-- V89: not powered, so OFF at [1,0,0,1], frame V35. -/
theorem test_tick_expires_with_off :
    after (exec .tick { mk false .high .debouncing 1 [7] [] with addr := adr true false false true })
      = some { mk false .high .transmitting 0 [] [7] with
          addr := adr true false false true
          outs := [.txstart (rep 5
            [225, 225, 450, 225, 450, 225, 450, 225, 450, 225, 450, 450, 225, 225, 450, 225, 450, 450,
             225, 225, 450, 225, 450, 450, 225, 4500])] } := by decide

/-- V82. -/
theorem test_txdone_ok_to_idle :
    after (exec .txdoneOk (mk true .medium .transmitting 0 [] [7, 8]))
      = some { mk true .medium .idle 0 [] [] with outs := [.resolve 7 .ok, .resolve 8 .ok] } := by decide

/-- V73. -/
theorem test_txdone_ok_spurious :
    after (exec .txdoneOk (mk true .low .idle 0 [] [])) = some (mk true .low .idle 0 [] []) := by decide

/-- V85: tag 9 is not resolved. -/
theorem test_txdone_err_follow_up :
    after (exec (.txdoneErr e1) (mk false .high .transmitting 0 [9] [7, 8]))
      = some { mk false .high .debouncing 2 [9] [] with
          outs := [.resolve 7 (.err e1), .resolve 8 (.err e1)] } := by decide

/-- V86. -/
theorem test_badcmd_is_dropped :
    after (exec (.badcmd 0b010#3 5) (mk true .low .debouncing 1 [7] []))
      = some (mk true .low .debouncing 1 [7] []) := by decide

/-- V87. -/
theorem test_reset_drops_tags :
    after (exec (.reset [true, false, false, true]) (mk true .high .transmitting 0 [9] [7, 8]))
      = some { mk false .off .idle 0 [] [] with addr := adr true false false true } := by decide

/-- One cycle in which the ports REQ, TXR and `tick` present a word or none, with or without RESET. -/
def cycle (rst : BitVec 1) (req txr tick : Bool) : Cycle :=
  { rst := rst, cfgAddr := 5#4, reqValid := req, reqCmd := 0b111#3, reqTag := 2, txrValid := txr,
    txrFail := 1#1, txrInfo := e1, tick := BitVec.ofBool tick }

/-- The orders of V92 (and V94), V93 and V95. -/
theorem test_cycle_order :
    cycleWords (cycle 0#1 true false true) = [.req 0b111#3 2, .tick 1#1]
    ∧ cycleWords (cycle 0#1 true true false) = [.req 0b111#3 2, .txr 1#1 e1]
    ∧ cycleWords (cycle 0#1 false true true) = [.txr 1#1 e1, .tick 1#1] := by decide

/-- The word placed by `withFetchWord` is the one the next step runs. -/
theorem test_withFetchWord_runs :
    (after (step (State.reset.withFetchWord 8 0b001))).map (fun t => (t.powered, t.queue, t.inputs))
      = some (true, [0], []) := by decide

/-! ### Witnesses: the hypotheses of each statement can be met -/

/-- An idle, a debouncing and a transmitting state with the invariants. -/
def sIdle : State := mk true .low .idle 0 [] []
def sDeb : State := mk true .low .debouncing 1 [7] []
def sTx : State := mk true .low .transmitting 0 [9] [7, 8]

theorem sIdle_inv : sIdle.Inv := by decide
theorem sDeb_inv : sDeb.Inv := by decide
theorem sTx_inv : sTx.Inv := by decide

theorem witness_DecodeOfEncodeIsTheEvent :
    (Instr.badcmd 0b011#3 0).wellFormed = true
    ∧ (Instr.reset [true, false, false, true]).wellFormed = true := by decide

theorem witness_EncodeOfDecodeIsTheWord :
    decode (.txr 0#1 e1) = .ok .txdoneOk ∧ decode (.rst 1#1 15#4) = .ok (.reset [true, true, true, true])
    := by decide

theorem witness_OneHotSetsExactlyThePinBit : (7 : Nat) < 8 ∧ pin .reverse = 7 := by decide

theorem witness_BencIsOneHotThenAddressAndInjective :
    bencBits .low [true] = bencBits .low [true] ∧ (0 : Nat) < 8 ∧ (7 : Nat) < 8 := by decide

theorem witness_NumericBencRefusesWhatIsNoButton :
    ((6 : Nat) = 6 ∨ 8 ≤ 6) ∧ ((8 : Nat) = 6 ∨ 8 ≤ 8) := by decide

theorem witness_SymIsLongShortForOne : 1 ≤ cfg2.t ∧ (1 : Nat) < 2 := by decide

theorem witness_FrameLengthIsTwicePlusTwo : frame cfg2 [true] = some [225, 450, 225, 4500] := by decide

theorem witness_FrameElementsAreSyncPairsPilot :
    [true, false] ≠ [] ∧ [true, false][0]? = some true ∧ [true, false][1]? = some false := by decide

theorem witness_TransmissionIsTheFrameRepeated :
    frame cfg2 [true] = some [225, 450, 225, 4500]
    ∧ tenc cfg2 [true] = some (rep 5 [225, 450, 225, 4500]) ∧ 19 < 5 * (2 * [true].length + 2) := by decide

theorem witness_EveryFrameBeginsWithSyncAndEndsWithPilot :
    tenc cfg2 [true] = some (rep 5 [225, 450, 225, 4500]) ∧ 4 < cfg2.repeatCount := by decide

theorem witness_TencIsInjectiveOnWordsOfOneLength :
    cfg2.Valid ∧ tenc cfg2 [true] = some (rep 5 [225, 450, 225, 4500]) := by decide

theorem witness_SequenceDeterminesButtonAndAddress :
    cfg2.Valid ∧ ∃ seq, tenc cfg2 (benc .dim (adr true false true true)) = some seq :=
  ⟨by decide, _, rfl⟩

theorem witness_TimeOnAirOfFrameAndTransmission :
    frame cfg2 [false] = some [225, 225, 450, 4500]
    ∧ tenc cfg2 [false] = some (rep 5 [225, 225, 450, 4500]) := by decide

theorem witness_FormatXWordsCarryDurationLevelAndLast :
    [65535][0]? = some 65535 ∧ 65535 < 65536
    ∧ ({ cfg2 with t := 3276 }).t ≤ 3276
    ∧ tenc { cfg2 with t := 3276 } [true] = some (rep 5 [3276, 6552, 3276, 65520]) ∧ 19 < 20 := by decide

theorem witness_RawCodeNumeralsReadBack :
    (decimal 0).head? = some '0' ∧ [225, 0] ≠ [] ∧ rawCodeChars [] = rawCodeChars [] := by decide

theorem witness_SetpwrWritesPoweredAndQueuesItsTag : sIdle.st = .idle ∧ sDeb.st ≠ .idle := by decide

theorem witness_SetspdWritesSpeedAndQueuesItsTag : sIdle.st = .idle ∧ sTx.st ≠ .idle := by decide

theorem witness_TickCountsDownAndExpires :
    sTx.st ≠ .debouncing ∧ sDeb.st = .debouncing ∧ sDeb.dtimer = 1
    ∧ (mk true .low .debouncing 2 [7] []).st = .debouncing
    ∧ 1 < (mk true .low .debouncing 2 [7] []).dtimer := by decide

theorem witness_TickWithZeroTimerExpiresToo :
    (mk true .low .debouncing 0 [7] []).st = .debouncing ∧ (mk true .low .debouncing 0 [7] []).dtimer = 0
    := by decide

theorem witness_TxdoneOkResolvesTheBatch :
    sTx.st = .transmitting ∧ sTx.queue ≠ [] ∧ (mk true .low .transmitting 0 [] [7]).st = .transmitting
    ∧ (mk true .low .transmitting 0 [] [7]).queue = [] := by decide

theorem witness_TxdoneErrResolvesTheBatchWithTheError :
    sTx.st = .transmitting ∧ sTx.queue ≠ [] ∧ (mk true .low .transmitting 0 [] [7]).queue = [] := by decide

theorem witness_SpuriousCompletionIsDropped :
    sIdle.st ≠ .transmitting ∧ sDeb.st ≠ .transmitting := by decide

theorem witness_ReservedCommandIsDropped :
    (0b010#3 = 0b010#3 ∨ 0b010#3 = 0b011#3) ∧ (0b011#3 = 0b010#3 ∨ 0b011#3 = 0b011#3) := by decide

theorem witness_ResetWithMalformedAddressIsRefused :
    [true, false, true].length ≠ addrLen ∧ [true, false, true, true, true].length ≠ addrLen := by decide

theorem witness_ElementsChangeOnlyByTheirWriters :
    (∃ t, exec .tick sTx = .next t) ∧ (∃ t, exec (.setpwr true 1) sDeb = .next t)
    ∧ (∃ t, exec .txdoneOk sTx = .next t) ∧ (∃ t, exec (.badcmd 2#3 1) sTx = .next t)
    ∧ isReset .tick = false ∧ isRequest (.setpwr true 1) = true ∧ sDeb.st ≠ .idle
    ∧ isDone .txdoneOk = true ∧ ¬ (sTx.st = .debouncing ∧ sTx.dtimer ≤ 1) :=
  ⟨⟨_, rfl⟩, ⟨_, rfl⟩, ⟨_, rfl⟩, ⟨_, rfl⟩, by decide⟩

theorem witness_SchedulerStateChangesOnlyAsListed : sDeb.Inv ∧ ∃ t, exec .tick sDeb = .next t :=
  ⟨by decide, _, rfl⟩

theorem witness_OutputsComeOnlyFromExpireAndTxdone :
    (sDeb.Inv ∧ sDeb.dtimer = 1 ∧ ∃ t, exec .tick sDeb = .next t)
    ∧ (sTx.Inv ∧ ∃ t, exec (txdoneOf (.err e1)) sTx = .next t)
    ∧ (sIdle.Inv ∧ ∃ t, exec .tick sIdle = .next t) :=
  ⟨⟨by decide, by decide, _, rfl⟩, ⟨by decide, _, rfl⟩, ⟨by decide, _, rfl⟩⟩

theorem witness_EveryEventAndEveryStepCompletes : (Instr.reset [true, true, true, true]).wellFormed = true :=
  by decide

theorem witness_RaisedErrorIsTakenAndKeepsFanState :
    raises (.reset []) sIdle = some .encodingPrecondition
    ∧ raises (.txdoneErr e1) sTx = some (.transmitError e1)
    ∧ raises (.badcmd 2#3 1) sIdle = some .illegalCommand
    ∧ raises .txdoneOk sDeb = some .spuriousCompletion := by decide

theorem witness_FailureReachesEveryRequestOfTheBatch : sTx.st = .transmitting ∧ 7 ∈ sTx.batch := by decide

theorem witness_ResetStateSatisfiesTheInvariants : cfg2.Valid := by decide

theorem witness_EveryStepKeepsTheInvariants :
    ({ sDeb with inputs := [.tick 1#1] } : State).Inv
    ∧ ∃ t, step { sDeb with inputs := [.tick 1#1] } = .next t :=
  ⟨by decide, _, rfl⟩

theorem witness_EveryTagIsResolvedOnceInOrder :
    sTx.Inv ∧ (∀ i ∈ [Instr.setpwr true 3, .txdoneOk, .tick], isReset i = false)
    ∧ ∃ t, runEvents [.setpwr true 3, .txdoneOk, .tick] sTx = .next t :=
  ⟨by decide, by decide, _, rfl⟩

theorem witness_TransmissionsStartedMatchThoseAnswered :
    (∀ i ∈ [Instr.tick, .txdoneOk], isReset i = false)
    ∧ ∃ t, runEvents [.tick, .txdoneOk] sDeb = .next t :=
  ⟨by decide, _, rfl⟩

/-- A run from reset with one request that comes back to Idle. -/
def oneCycle : List Instr := [.setpwr true 1, .tick, .tick, .txdoneOk]

theorem witness_TransmissionsAreNoMoreThanRequests :
    cfg2.Valid ∧ (∀ i ∈ oneCycle, isReset i = false) ∧ requestTags oneCycle ≠ []
    ∧ ∃ t, runEvents oneCycle (State.resetWith cfg2 (adr true true false false)) = .next t ∧ t.st = .idle :=
  ⟨by decide, by decide, by decide, _, rfl, rfl⟩

theorem witness_QuiescenceMeansEveryRequestResolved :
    cfg2.Valid ∧ (∀ i ∈ oneCycle, isReset i = false)
    ∧ ∃ t, runEvents oneCycle (State.resetWith cfg2 (adr true true false false)) = .next t
        ∧ quiescent t = true :=
  ⟨by decide, by decide, _, rfl, rfl⟩

theorem witness_RequestsDoNotRestartTheTimer :
    (mk true .low .debouncing 2 [7] []).st = .debouncing
    ∧ (∀ i ∈ [Instr.setpwr true 3, .tick], isRequest i = true ∨ i = .tick)
    ∧ tickCount [.setpwr true 3, .tick] < (mk true .low .debouncing 2 [7] []).dtimer := by decide

theorem witness_BurstInOneWindowIsOneTransmission :
    sIdle.Inv ∧ sIdle.st = .idle ∧ isRequest (.setpwr true 1) = true
    ∧ (∀ i ∈ [Instr.tick, .setspd .medium 2], isRequest i = true ∨ i = .tick)
    ∧ tickCount [.tick, .setspd .medium 2] < sIdle.cfg.debounceTicks := by decide

theorem witness_RequestDuringTransmissionGetsASecondOne :
    sTx.Inv ∧ sTx.st = .transmitting ∧ (∀ i ∈ [Instr.setpwr false 3], isRequest i = true)
    ∧ sTx.queue ++ requestTags [.setpwr false 3] ≠ [] := by decide

theorem witness_AnswersAndTicksResolveEveryRequest : sTx.Inv ∧ sDeb.Inv ∧ sIdle.Inv :=
  ⟨sTx_inv, sDeb_inv, sIdle_inv⟩

theorem witness_UnansweredTransmissionOnlyGrowsTheQueue :
    sTx.st = .transmitting
    ∧ ∀ i ∈ [Instr.setpwr true 3, .tick, .badcmd 2#3 4], isDone i = false ∧ isReset i = false := by decide

theorem witness_RequestAndCompletionCommute : isRequest (.setspd .high 2) = true := by decide

theorem witness_ResetDropsOutstandingRequests : [true, false, true, false].length = addrLen := by decide

theorem witness_StepRunsTheDecodedEvent :
    ({ sDeb with inputs := [.tick 1#1] } : State).inputs = [.tick 1#1] ∧ decode (.tick 1#1) = .ok .tick
    ∧ ({ sDeb with inputs := [.tick 0#1] } : State).inputs = [.tick 0#1]
    ∧ decode (.tick 0#1) = .error .noTick ∧ sDeb.inputs = [] := by decide

theorem witness_SteppingThroughWordsIsTheRun :
    ∀ i ∈ [Instr.reset [true, true, false, false], .badcmd 2#3 4, .tick], i.wellFormed = true := by decide

theorem witness_OneCycleIsTakenInTheFixedOrder :
    sTx.inputs = [] ∧ decode (.req 0b111#3 2) = .ok (.setspd .high 2)
    ∧ decode (.txr 1#1 e1) = .ok (.txdoneErr e1)
    ∧ (∀ req txr tick : Bool, (cycle 0#1 req txr tick).rst = 0#1 ∧ (cycle 1#1 req txr tick).rst = 1#1
        ∧ (cycle 0#1 req txr tick).reqValid = req ∧ (cycle 0#1 req txr tick).txrValid = txr
        ∧ ((cycle 0#1 req txr tick).tick = 1#1 ↔ tick = true)) := by decide

theorem witness_StepNeverInspectsTagsOrErrors :
    ∃ t, step { sTx with inputs := [.txr 1#1 e1] } = .next t := ⟨_, rfl⟩

theorem witness_SnapFollowsTheStrictThresholds :
    (0 : Nat) < 2 ∧ 75 ≤ 100 * 2 ∧ (0 : Nat) < 1 ∧ 100 ≤ 100 * 1 ∧ 0 ≤ 100 * 1 := by decide

theorem witness_TransmitterOutcomeFollowsTheDecisionList :
    400 ≤ 400 ∧ 399 < 400 ∧ some "failed" ≠ some "success" := by decide

end Sys2Proof.Tests
end

/-! Proofs about the words of the input ports and the codes of the status outputs (30_encoding.md R51 to R55):
first how each function of the decoder and of the outputs behaves, then the statements O3 to O6. -/

namespace Sys2Proof

/-! ### The codes of a Level -/

@[simp] theorem levelOfCode_levelCode (l : Level) : levelOfCode (levelCode l) = l := by
  cases l <;> rfl

/-! ### Format C -/

@[simp] theorem decode_req (cmd : BitVec 3) (tag : Tag) :
    decode (.req cmd tag) = .ok (decodeCommand cmd tag) := rfl

/-- Everything a word of format C can decode to, with the bits that decide it. -/
theorem decodeCommand_cases (cmd : BitVec 3) (tag : Tag) :
    (cmd[2] = true ∧ decodeCommand cmd tag = .setspd (levelOfCode (cmd.extractLsb' 0 2)) tag)
    ∨ (cmd[2] = false ∧ cmd[1] = true ∧ decodeCommand cmd tag = .badcmd cmd tag)
    ∨ (cmd[2] = false ∧ cmd[1] = false ∧ decodeCommand cmd tag = .setpwr cmd[0] tag) := by
  cases hop : cmd[2] with
  | true => simp [decodeCommand, hop]
  | false => cases harg : cmd[1] <;> simp [decodeCommand, hop, harg]

theorem decode_setpwr_word (on : Bool) (tag : Tag) :
    decode (.req (0b00#2 ++ BitVec.ofBool on) tag) = .ok (.setpwr on tag) := by
  cases on <;> rfl

theorem decode_setspd_word (lvl : Level) (tag : Tag) :
    decode (.req (0b1#1 ++ levelCode lvl) tag) = .ok (.setspd lvl tag) := by
  cases lvl <;> rfl

theorem decode_reserved_word {cmd : BitVec 3} (hcmd : isReservedWord cmd = true) (tag : Tag) :
    decode (.req cmd tag) = .ok (.badcmd cmd tag) := by
  simp only [isReservedWord, Bool.or_eq_true, beq_iff_eq] at hcmd
  obtain rfl | rfl := hcmd <;> rfl

/-- The pattern `00p` asks for `op` and the high bit of `arg` to be 0. -/
theorem and_power_mask_eq_iff (cmd : BitVec 3) :
    cmd &&& 0b110#3 = 0b000#3 ↔ cmd[2] = false ∧ cmd[1] = false := by
  revert cmd; decide

/-- The pattern `1ll` asks for `op` to be 1. -/
theorem and_speed_mask_eq_iff (cmd : BitVec 3) :
    cmd &&& 0b100#3 = 0b100#3 ↔ cmd[2] = true := by
  revert cmd; decide

theorem decode_eq_setspd_iff (cmd : BitVec 3) (tag : Tag) :
    (∃ lvl, decode (.req cmd tag) = .ok (.setspd lvl tag)) ↔ cmd[2] = true := by
  obtain ⟨hop, h⟩ | ⟨hop, -, h⟩ | ⟨hop, -, h⟩ := decodeCommand_cases cmd tag <;> simp [h, hop]

theorem decode_eq_setpwr_iff (cmd : BitVec 3) (tag : Tag) :
    (∃ on, decode (.req cmd tag) = .ok (.setpwr on tag)) ↔ cmd[2] = false ∧ cmd[1] = false := by
  obtain ⟨hop, h⟩ | ⟨hop, harg, h⟩ | ⟨hop, harg, h⟩ := decodeCommand_cases cmd tag
  · simp [h, hop]
  · simp [h, harg]
  · simp [h, hop, harg]

/-! ### Formats K, S and R -/

@[simp] theorem decode_tick_one : decode (.tick 1#1) = .ok .tick := rfl
@[simp] theorem decode_tick_zero : decode (.tick 0#1) = .error .noTick := rfl
@[simp] theorem decode_txr_zero (info : ErrInfo) : decode (.txr 0#1 info) = .ok .txdoneOk := rfl
@[simp] theorem decode_txr_one (info : ErrInfo) : decode (.txr 1#1 info) = .ok (.txdoneErr info) := rfl
@[simp] theorem decode_rst_zero (c : BitVec 4) : decode (.rst 0#1 c) = .error .noReset := rfl
@[simp] theorem decode_rst_one (c : BitVec 4) :
    decode (.rst 1#1 c) = .ok (.reset (cfgAddrBits c)) := rfl

@[simp] theorem cfgAddrBits_length (c : BitVec 4) : (cfgAddrBits c).length = addrLen := rfl

theorem cfgAddrBits_getElem? (c : BitVec 4) {i : Nat} (hi : i < addrLen) :
    (cfgAddrBits c)[i]? = some (c.getLsbD i) := by
  match i, hi with
  | 0, _ | 1, _ | 2, _ | 3, _ => rfl

end Sys2Proof

namespace Sys2Proof.Machine

/-! ### Status outputs -/

/-- `11` is the code of no value of `ST` (30_encoding.md R54). -/
theorem schedCode_ne_three (st : Sched) : schedCode st ≠ 0b11#2 := by
  cases st <;> decide

theorem stO_of_st {s : State} {st : Sched} (h : s.st = st) : stO s = schedCode st :=
  congrArg schedCode h

theorem poweredO_eq_one_iff (s : State) : poweredO s = 1#1 ↔ s.powered = true := by
  cases h : s.powered <;> simp [poweredO, h]

end Sys2Proof.Machine

/-! ### The statements -/

namespace Sys2Proof.Proofs

open Sys2Proof Sys2Proof.Machine

/-- Settles O3: the words are those of the encoder, and each pattern tests the bits that the decoder
branches on. -/
theorem formatCWordsSelectTheirOperations : Obligations.FormatCWordsSelectTheirOperations := by
  intro tag
  refine ⟨decode_setpwr_word false tag, decode_setpwr_word true tag,
    decode_reserved_word rfl tag, decode_reserved_word rfl tag,
    decode_setspd_word .off tag, decode_setspd_word .low tag,
    decode_setspd_word .medium tag, decode_setspd_word .high tag, fun cmd => ⟨?_, ?_⟩⟩
  · exact (and_power_mask_eq_iff cmd).trans (decode_eq_setpwr_iff cmd tag).symm
  · exact (and_speed_mask_eq_iff cmd).trans (decode_eq_setspd_iff cmd tag).symm

/-- Settles O4: the decoder's equation for each word, and the elements of `cfg_addr` in order. -/
theorem tickTxrAndResetWordsDecode : Obligations.TickTxrAndResetWordsDecode :=
  ⟨decode_tick_one, decode_tick_zero, decode_txr_zero, decode_txr_one, decode_rst_zero,
    fun c => ⟨cfgAddrBits c, decode_rst_one c, cfgAddrBits_length c,
      fun _ hi => cfgAddrBits_getElem? c hi⟩⟩

/-- Settles O5: the table is `levelCode`, inverted by `levelOfCode`; SETSPD's word carries it as `arg`. -/
theorem levelCodesAreAsTabled : Obligations.LevelCodesAreAsTabled :=
  ⟨rfl, rfl, rfl, rfl, levelOfCode_levelCode, fun _ => rfl,
    fun l _ => ⟨0b1#1 ++ levelCode l, rfl, BitVec.extractLsb'_append_eq_right⟩⟩

/-- Settles O6: `st_o` is the code of `ST`, and no value of `ST` has the code `11`. -/
theorem statusOutputCodesAreAsTabled : Obligations.StatusOutputCodesAreAsTabled :=
  ⟨fun s => ⟨stO_of_st, stO_of_st, stO_of_st, schedCode_ne_three s.st⟩, poweredO_eq_one_iff⟩

end Sys2Proof.Proofs

/-! Proofs about the Bit Sequence Encoder and the choice of Button (40_bit_encoder.md R73 to R82): first how
`pin`, `oneHot`, `benc`, `btn` and `target` behave, then the statements O7, O8, O10 and O12. -/

namespace Sys2Proof.Machine

/-! ### The pin indices -/

theorem Button.mem_all (b : Button) : b ∈ [Button.low, .light, .dim, .medium, .high, .off, .reverse] := by
  cases b <;> decide

@[simp] theorem buttonOfPin_pin (b : Button) : buttonOfPin (pin b) = some b := by
  cases b <;> rfl

theorem pin_injective {b b' : Button} (h : pin b = pin b') : b = b' := by
  have hsome : some b = some b' := by rw [← buttonOfPin_pin b, h, buttonOfPin_pin]
  exact Option.some.inj hsome

theorem pin_lt_btnBits (b : Button) : pin b < btnBits := by
  cases b <;> decide

/-- An index without a Button is the pin of none. -/
theorem pin_ne_of_buttonOfPin_eq_none {k : Nat} (hk : buttonOfPin k = none) (b : Button) : pin b ≠ k := by
  rintro rfl
  simp at hk

theorem pin_ne_six (b : Button) : pin b ≠ 6 := pin_ne_of_buttonOfPin_eq_none rfl b

/-! ### The one-hot field -/

theorem oneHot_getElem? (b : Button) {i : Nat} (hi : i < btnBits) :
    (oneHot b)[i]? = some (decide (i = pin b)) := by
  simp [oneHot, hi]

theorem oneHot_getElem?_eq_some_true_iff (b : Button) {i : Nat} (hi : i < btnBits) :
    (oneHot b)[i]? = some true ↔ i = pin b := by
  simp [oneHot_getElem? b hi]

/-! ### The word: the one-hot field, then the Address -/

theorem bencBits_length (b : Button) (a : List Bool) : (bencBits b a).length = btnBits + a.length := by
  simp [bencBits]

theorem bencBits_getElem?_button (b : Button) (a : List Bool) {i : Nat} (hi : i < btnBits) :
    (bencBits b a)[i]? = (oneHot b)[i]? :=
  List.getElem?_append_left (by rwa [oneHot_length])

theorem bencBits_getElem?_address (b : Button) (a : List Bool) (i : Nat) :
    (bencBits b a)[btnBits + i]? = a[i]? := by
  simp [bencBits, List.getElem?_append_right]

theorem benc_length (b : Button) (a : Address) : (benc b a).length = wordLen :=
  bencBits_length b (addressBits a)

/-! ### The target -/

@[simp] theorem target_false (s : Level) : target false s = .off := rfl
@[simp] theorem target_true (s : Level) : target true s = btn s := rfl

theorem btn_cases (s : Level) : btn s = .low ∨ btn s = .medium ∨ btn s = .high ∨ btn s = .off := by
  cases s <;> simp [btn]

/-- The Buttons that TARGET gives: the four of the Levels. -/
theorem target_cases (p : Bool) (s : Level) :
    target p s = .low ∨ target p s = .medium ∨ target p s = .high ∨ target p s = .off := by
  cases p with
  | false => simp
  | true => exact btn_cases s

/-- The range of TARGET: a powered fan gives each of the four Buttons at its own Level. -/
theorem exists_target_eq_iff (b : Button) :
    (∃ p s, target p s = b) ↔ (b = .low ∨ b = .medium ∨ b = .high ∨ b = .off) := by
  constructor
  · rintro ⟨p, s, rfl⟩
    exact target_cases p s
  · rintro (rfl | rfl | rfl | rfl)
    exacts [⟨true, .low, rfl⟩, ⟨true, .medium, rfl⟩, ⟨true, .high, rfl⟩, ⟨true, .off, rfl⟩]

theorem target_ne_light_dim_reverse (p : Bool) (s : Level) :
    target p s ≠ .light ∧ target p s ≠ .dim ∧ target p s ≠ .reverse := by
  obtain h | h | h | h := target_cases p s <;> simp [h]

end Sys2Proof.Machine

/-! ### The statements -/

namespace Sys2Proof.Proofs

open Sys2Proof Sys2Proof.Machine

/-- Settles O7: `buttonOfPin` inverts `pin` and knows no index 6; TARGET's range is that of the Levels. -/
theorem buttonPinsAreAsTabled : Obligations.ButtonPinsAreAsTabled :=
  ⟨rfl, rfl, rfl, rfl, rfl, rfl, rfl, Button.mem_all, fun b => ⟨pin_lt_btnBits b, pin_ne_six b⟩,
    fun _ _ => pin_injective, exists_target_eq_iff⟩

/-- Settles O8: the word with only bit 6 set would make 6 a Button's pin index. -/
theorem oneHotSetsExactlyThePinBit : Obligations.OneHotSetsExactlyThePinBit := by
  refine ⟨fun b => ⟨oneHot_length b, fun i hi => oneHot_getElem? b hi⟩, fun b hword => ?_⟩
  have hsix : (oneHot b)[6]? = some true := by rw [hword]; rfl
  exact pin_ne_six b ((oneHot_getElem?_eq_some_true_iff b (by decide)).mp hsix).symm

/-- Settles O10: the first eight bits are the one-hot field's, the others the Address's. -/
theorem bencOfABlockAddressHasOneButtonBit : Obligations.BencOfABlockAddressHasOneButtonBit := by
  intro b a
  have hbutton : ∀ i, i < 8 → ((benc b a)[i]? = some true ↔ i = pin b) := fun i hi => by
    rw [benc, bencBits_getElem?_button b _ hi, oneHot_getElem?_eq_some_true_iff b hi]
  have haddress : ∀ i, (benc b a)[8 + i]? = (addressBits a)[i]? :=
    bencBits_getElem?_address b (addressBits a)
  exact ⟨benc_length b a, hbutton, haddress 0, haddress 1, haddress 2, haddress 3⟩

/-- Settles O12: the tables are `btn`, `pin` and `oneHot` at the four Levels; no Level has the Button
LIGHT, DIM or REVERSE. -/
theorem targetIsOffUnlessPowered : Obligations.TargetIsOffUnlessPowered :=
  ⟨rfl, rfl, rfl, rfl, rfl, rfl, rfl, rfl, rfl, rfl, rfl, rfl, target_false, target_true,
    target_ne_light_dim_reverse⟩

end Sys2Proof.Proofs

/-! Proofs about the Timing Encoder's symbols and frames (41_timing_encoder.md R85 to R92): first how `sym` and
`frame` behave, then the statements O13 and O14. -/

namespace Sys2Proof.Machine

/-! ### The durations as multiples of T -/

@[simp] theorem syncDur_eq (c : Config) : syncDur c = c.t := Nat.one_mul c.t
@[simp] theorem shortDur_eq (c : Config) : shortDur c = c.t := Nat.one_mul c.t
@[simp] theorem longDur_eq (c : Config) : longDur c = 2 * c.t := rfl
@[simp] theorem pilotDur_eq (c : Config) : pilotDur c = 20 * c.t := rfl

/-! ### The pair of one bit -/

@[simp] theorem sym_true (c : Config) : sym c true = [2 * c.t, c.t] := by simp [sym]
@[simp] theorem sym_false (c : Config) : sym c false = [c.t, 2 * c.t] := by simp [sym]

/-- Every bit takes the same time on air (41_timing_encoder.md R87). -/
theorem sym_sum (c : Config) (bit : Bool) : (sym c bit).sum = 3 * c.t := by
  cases bit with
  | true => simp only [sym_true, List.sum_cons, List.sum_nil]; omega
  | false => simp only [sym_false, List.sum_cons, List.sum_nil]; omega

/-- Long and short differ when `T` is not 0, so either element of a pair tells its bit. -/
theorem sym_getElem?_ne {c : Config} (ht : 1 ≤ c.t) {k : Nat} (hk : k < 2) :
    (sym c true)[k]? ≠ (sym c false)[k]? := by
  have hlong : 2 * c.t ≠ c.t := by omega
  match k, hk with
  | 0, _ => simpa using hlong
  | 1, _ => simpa using hlong.symm

/-! ### The frame of a word -/

/-- Exactly the non-empty words have a frame: the sync, the pairs of the bits in order, the pilot. -/
theorem frame_eq_some_iff (c : Config) (w : BitWord) (f : List Nat) :
    frame c w = some f ↔ w ≠ [] ∧ f = [syncDur c] ++ w.flatMap (sym c) ++ [pilotDur c] := by
  cases w with
  | nil => simp [frame]
  | cons b bs => simp [frame, eq_comm]

theorem frame_length {c : Config} {w : BitWord} {f : List Nat} (h : frame c w = some f) :
    f.length = frameLen w.length := by
  obtain ⟨-, rfl⟩ := (frame_eq_some_iff c w f).mp h
  rw [List.length_append, List.length_append, flatMap_sym_length]
  rfl

theorem frame_benc_exists (c : Config) (b : Button) (a : Address) : ∃ f, frame c (benc b a) = some f :=
  ⟨_, frame_of_ne_nil c (benc_ne_nil b a)⟩

end Sys2Proof.Machine

/-! ### The statements -/

namespace Sys2Proof.Proofs

open Sys2Proof Sys2Proof.Machine

/-- Settles O14: the length is that of `frame_length`, at the 12 bits of `benc_length` for the block's own
words. -/
theorem frameLengthIsTwicePlusTwo : Obligations.FrameLengthIsTwicePlusTwo := by
  refine ⟨fun _ _ _ hframe => frame_length hframe, fun c b a => ?_⟩
  obtain ⟨f, hframe⟩ := frame_benc_exists c b a
  have hlen : f.length = frameLen wordLen := by rw [frame_length hframe, benc_length]
  exact ⟨f, hframe, hlen⟩

/-- Settles O13: the pairs of `sym_true` and `sym_false`, whose elements differ in both positions. -/
theorem symIsLongShortForOne : Obligations.SymIsLongShortForOne :=
  fun c => ⟨sym_true c, sym_false c, sym_sum c, fun ht _ hk => sym_getElem?_ne ht hk⟩

end Sys2Proof.Proofs

/-! Proofs about what the events of the Update Scheduler emit (42_scheduler.md R110 to R114): first what each
event answers, then everything an event can do to the outputs, then the statement O36. -/

namespace Sys2Proof.Machine

/-! ### The outputs of the shared operations -/

@[simp] theorem reqCommon_outs (tag : Tag) (s : State) : (reqCommon tag s).outs = s.outs := by
  obtain ⟨-, h⟩ | ⟨-, h⟩ := reqCommon_cases tag s <;> simp [h]

@[simp] theorem complete_outs (out : TxOutcome) (s : State) :
    (complete out s).outs = s.outs ++ resolveAll s.batch out := by
  obtain ⟨-, h⟩ | ⟨-, h⟩ := complete_cases out s <;> simp [h]

/-! ### What each event answers -/

theorem exec_next_unique {i : Instr} {s t t' : State} (h : exec i s = .next t) (h' : exec i s = .next t') :
    t = t' :=
  Host.Outcome.next.inj (h.symm.trans h')

theorem exec_setpwr_eq (on : Bool) (tag : Tag) (s : State) :
    exec (.setpwr on tag) s = .next (reqCommon tag (setPowered on s)) := rfl

theorem exec_setspd_eq (lvl : Level) (tag : Tag) (s : State) :
    exec (.setspd lvl tag) s = .next (reqCommon tag (setSpeed lvl s)) := rfl

theorem exec_badcmd_eq (word : BitVec 3) (tag : Tag) (s : State) :
    exec (.badcmd word tag) s = .next s := rfl

/-- A `RESET` that answers a next state had an Address of `ADDR_LEN` elements. -/
theorem exec_reset_eq_next_iff (cfgAddr : List Bool) (s t : State) :
    exec (.reset cfgAddr) s = .next t ↔ ∃ a, addressOf cfgAddr = some a ∧ t = resetRegisters a s := by
  cases h : addressOf cfgAddr <;> simp [exec, execReset, h, eq_comm]

/-- A `TICK` waits outside Debouncing, counts down above 1 and expires otherwise (42_scheduler.md R110). -/
theorem exec_tick_cases (s : State) :
    (s.st ≠ .debouncing ∧ exec .tick s = .next s)
    ∨ (s.st = .debouncing ∧ 1 < s.dtimer ∧ exec .tick s = .next (countDown s))
    ∨ (s.st = .debouncing ∧ s.dtimer ≤ 1 ∧ exec .tick s = expire s) := by
  cases hst : s.st with
  | idle => simp [exec, execTick, hst]
  | transmitting => simp [exec, execTick, hst]
  | debouncing =>
    by_cases hrun : 1 < s.dtimer
    · simp [exec, execTick, hst, hrun]
    · simp [exec, execTick, hst, hrun, Nat.le_of_not_lt hrun]

theorem exec_txdoneOf_of_transmitting (out : TxOutcome) {s : State} (hst : s.st = .transmitting) :
    exec (txdoneOf out) s = .next (complete out s) := by
  cases out <;> simp [txdoneOf, exec, execTxdoneOk, execTxdoneErr, hst]

theorem exec_txdoneOf_of_not_transmitting (out : TxOutcome) {s : State} (hst : s.st ≠ .transmitting) :
    exec (txdoneOf out) s = .next s := by
  cases h : s.st with
  | transmitting => exact absurd h hst
  | idle => cases out <;> simp [txdoneOf, exec, execTxdoneOk, execTxdoneErr, h]
  | debouncing => cases out <;> simp [txdoneOf, exec, execTxdoneOk, execTxdoneErr, h]

theorem txdoneOf_ne_tick (out : TxOutcome) : txdoneOf out ≠ .tick := by
  cases out <;> simp [txdoneOf]

theorem txdoneOf_injective {out out' : TxOutcome} (h : txdoneOf out = txdoneOf out') : out = out' := by
  match out, out', h with
  | .ok, .ok, _ => rfl
  | .err _, .err _, rfl => rfl

/-! ### What an event does to the outputs -/

/-- Requests, reserved words and `RESET` emit nothing. -/
theorem exec_outs_of_not_txdone_of_not_tick {i : Instr} {s t : State} (hdone : ∀ out, i ≠ txdoneOf out)
    (htick : i ≠ .tick) (hnext : exec i s = .next t) : t.outs = s.outs := by
  cases i with
  | setpwr on tag =>
    obtain rfl := exec_next_unique (exec_setpwr_eq on tag s) hnext
    exact reqCommon_outs tag _
  | setspd lvl tag =>
    obtain rfl := exec_next_unique (exec_setspd_eq lvl tag s) hnext
    exact reqCommon_outs tag _
  | badcmd word tag =>
    obtain rfl := exec_next_unique (exec_badcmd_eq word tag s) hnext
    rfl
  | tick => exact absurd rfl htick
  | txdoneOk => exact absurd rfl (hdone .ok)
  | txdoneErr info => exact absurd rfl (hdone (.err info))
  | reset cfgAddr =>
    obtain ⟨a, -, rfl⟩ := (exec_reset_eq_next_iff cfgAddr s t).mp hnext
    exact resetRegisters_outs a s

theorem exec_txdoneOf_outs {out : TxOutcome} {s t : State} (hnext : exec (txdoneOf out) s = .next t) :
    t.outs = s.outs ++ if s.st = .transmitting then resolveAll s.batch out else [] := by
  by_cases hst : s.st = .transmitting
  · obtain rfl := exec_next_unique (exec_txdoneOf_of_transmitting out hst) hnext
    simp [hst]
  · obtain rfl := exec_next_unique (exec_txdoneOf_of_not_transmitting out hst) hnext
    simp [hst]

/-- A `TICK` emits nothing but the `TXSTART` of EXPIRE, in Debouncing with the delay over. -/
theorem exec_tick_outs_cases {s t : State} (hnext : exec .tick s = .next t) :
    (s.st = .debouncing ∧ s.dtimer ≤ 1 ∧ t.st = .transmitting
      ∧ ∃ seq, transmission s.cfg s.powered s.speed s.addr = some seq ∧ t.outs = s.outs ++ [.txstart seq])
    ∨ (¬ (s.st = .debouncing ∧ s.dtimer ≤ 1) ∧ t.outs = s.outs) := by
  obtain ⟨hst, hexec⟩ | ⟨-, hrun, hexec⟩ | ⟨hst, hover, hexec⟩ := exec_tick_cases s
  · obtain rfl := exec_next_unique hexec hnext
    exact .inr ⟨fun h => hst h.1, rfl⟩
  · obtain rfl := exec_next_unique hexec hnext
    exact .inr ⟨fun h => Nat.not_lt.mpr h.2 hrun, countDown_outs s⟩
  · obtain ⟨seq, hseq, hexpire⟩ := expire_next s
    obtain rfl := exec_next_unique (hexec.trans hexpire) hnext
    exact .inl ⟨hst, hover, by simp, seq, hseq, by simp⟩

/-- The delay of a state with the invariants is over exactly at `DTIMER = 1` (10_state.md R27). -/
theorem State.Inv.dtimer_le_one_iff {s : State} (hinv : s.Inv) (hst : s.st = .debouncing) :
    s.dtimer ≤ 1 ↔ s.dtimer = 1 := by
  obtain ⟨-, -, hdeb, -⟩ := hinv
  obtain ⟨-, -, hpos, -⟩ := hdeb hst
  omega

end Sys2Proof.Machine

/-! ### The statement -/

namespace Sys2Proof.Proofs

open Sys2Proof Sys2Proof.Machine

/-- Settles O36: the event is a TXDONE, a TICK or one that is silent; under the invariants the tick that
expires is the one with `DTIMER = 1`. -/
theorem outputsComeOnlyFromExpireAndTxdone : Obligations.OutputsComeOnlyFromExpireAndTxdone := by
  intro i s t hinv hnext
  by_cases hdone : ∃ out, i = txdoneOf out
  · obtain ⟨out, rfl⟩ := hdone
    refine ⟨_, exec_txdoneOf_outs hnext, fun out' hout hst => ?_,
      fun htick => absurd htick (txdoneOf_ne_tick out), fun hst _ => if_neg (hst out rfl)⟩
    obtain rfl := txdoneOf_injective hout
    exact if_pos hst
  · have hnotDone : ∀ out, i ≠ txdoneOf out := not_exists.mp hdone
    by_cases htick : i = .tick
    · subst htick
      obtain ⟨hst, hover, htst, seq, hseq, houts⟩ | ⟨hwait, houts⟩ := exec_tick_outs_cases hnext
      · exact ⟨_, houts, fun out hout => absurd hout (hnotDone out), fun _ _ _ => ⟨htst, seq, hseq, rfl⟩,
          fun _ hwait => absurd ⟨hst, (hinv.dtimer_le_one_iff hst).mp hover⟩ (hwait rfl)⟩
      · exact ⟨[], by simp [houts], fun out hout => absurd hout (hnotDone out),
          fun _ hst hone => absurd ⟨hst, Nat.le_of_eq hone⟩ hwait, fun _ _ => rfl⟩
    · exact ⟨[], by simp [exec_outs_of_not_txdone_of_not_tick hnotDone htick hnext],
        fun out hout => absurd hout (hnotDone out), fun h => absurd h htick, fun _ _ => rfl⟩

end Sys2Proof.Proofs

/-! Proofs about the percent values at the boundary (43_boundary.md R128, R129): first which range of
`num / den` takes each branch of `snapRatio`, then the two thresholds of the spec as the integer comparisons
that the model makes, then the statement O57. -/

namespace Sys2Proof.Machine

/-- The four ranges of a percent and the Level of each, in the model's integer comparisons. -/
theorem snapRatio_cases {num den : Nat} (hden : 0 < den) (hnum : num ≤ 100 * den) :
    (num = 0 ∧ snapRatio num den = some .off)
    ∨ (0 < num ∧ 2 * num < 75 * den ∧ snapRatio num den = some .low)
    ∨ (75 * den ≤ 2 * num ∧ num < 75 * den ∧ snapRatio num den = some .medium)
    ∨ (75 * den ≤ num ∧ snapRatio num den = some .high) := by
  have hrange : ¬ (den = 0 ∨ 100 * den < num) := by omega
  rw [snapRatio, if_neg hrange]
  by_cases hzero : num = 0
  · exact .inl ⟨hzero, if_pos hzero⟩
  rw [if_neg hzero]
  by_cases hlow : 2 * num < 75 * den
  · exact .inr (.inl ⟨Nat.pos_of_ne_zero hzero, hlow, if_pos hlow⟩)
  rw [if_neg hlow]
  by_cases hmedium : num < 75 * den
  · exact .inr (.inr (.inl ⟨Nat.not_lt.mp hlow, hmedium, if_pos hmedium⟩))
  · exact .inr (.inr (.inr ⟨Nat.not_lt.mp hmedium, if_neg hmedium⟩))

theorem ratio_lt_seventyFive_halves_iff {den : Nat} (hden : 0 < den) (num : Nat) :
    (num : ℚ) / den < 75 / 2 ↔ 2 * num < 75 * den := by
  rw [div_lt_div_iff₀ (Nat.cast_pos.mpr hden) two_pos, mul_comm (num : ℚ)]
  exact_mod_cast Iff.rfl

theorem ratio_lt_seventyFive_iff {den : Nat} (hden : 0 < den) (num : Nat) :
    (num : ℚ) / den < 75 ↔ num < 75 * den := by
  rw [div_lt_iff₀ (Nat.cast_pos.mpr hden)]
  exact_mod_cast Iff.rfl

theorem seventyFive_halves_le_ratio_iff {den : Nat} (hden : 0 < den) (num : Nat) :
    75 / 2 ≤ (num : ℚ) / den ↔ 75 * den ≤ 2 * num :=
  le_iff_le_iff_lt_iff_lt.mpr (ratio_lt_seventyFive_halves_iff hden num)

theorem seventyFive_le_ratio_iff {den : Nat} (hden : 0 < den) (num : Nat) :
    75 ≤ (num : ℚ) / den ↔ 75 * den ≤ num :=
  le_iff_le_iff_lt_iff_lt.mpr (ratio_lt_seventyFive_iff hden num)

end Sys2Proof.Machine

/-! ### The statement -/

namespace Sys2Proof.Proofs

open Sys2Proof Sys2Proof.Machine

/-- Settles O57: in integers the four ranges exclude each other, so each Level is given on its own range
only. -/
theorem snapFollowsTheStrictThresholds : Obligations.SnapFollowsTheStrictThresholds := by
  refine ⟨rfl, rfl, rfl, rfl, fun num den hden hnum => ?_⟩
  rw [ratio_lt_seventyFive_halves_iff hden, ratio_lt_seventyFive_iff hden,
    seventyFive_halves_le_ratio_iff hden, seventyFive_le_ratio_iff hden]
  obtain ⟨hzero, hsnap⟩ | ⟨hpos, hlow, hsnap⟩ | ⟨hge, hmedium, hsnap⟩ | ⟨hge, hsnap⟩ :=
    snapRatio_cases hden hnum
  all_goals
    simp only [hsnap, Option.some.injEq, reduceCtorEq, true_iff, false_iff]
    omega

end Sys2Proof.Proofs

/-! Proofs that the decoder and the encoder of the input ports undo each other (30_encoding.md R51 to R60):
first the two directions for each format, then the statements O1, O2 and O31. -/

namespace Sys2Proof

/-! ### From an event to its word and back -/

/-- The wires `cfg_addr` carry an Address of `ADDR_LEN` elements without loss (30_encoding.md R50). -/
theorem cfgAddrBits_cfgAddrWord {bits : List Bool} (hlen : bits.length = addrLen) :
    cfgAddrBits (cfgAddrWord bits) = bits := by
  match bits, hlen with
  | [b0, b1, b2, b3], _ => revert b0 b1 b2 b3; decide

theorem decode_encode {i : Instr} (hwf : i.wellFormed = true) : decode (encode i) = .ok i := by
  cases i with
  | setpwr on tag => exact decode_setpwr_word on tag
  | setspd lvl tag => exact decode_setspd_word lvl tag
  | badcmd word tag => exact decode_reserved_word hwf tag
  | tick => exact decode_tick_one
  | txdoneOk => exact decode_txr_zero ignoredInfo
  | txdoneErr info => exact decode_txr_one info
  | reset bits =>
    have hlen : bits.length = addrLen := by simpa [Instr.wellFormed] using hwf
    exact (decode_rst_one _).trans (by rw [cfgAddrBits_cfgAddrWord hlen])

/-! ### From a word to its event and back -/

@[simp] theorem cfgAddrWord_cfgAddrBits (c : BitVec 4) : cfgAddrWord (cfgAddrBits c) = c := by
  revert c; decide

theorem speed_word_eq {cmd : BitVec 3} (hop : cmd[2] = true) :
    0b1#1 ++ levelCode (levelOfCode (cmd.extractLsb' 0 2)) = cmd := by
  revert cmd; decide

theorem power_word_eq {cmd : BitVec 3} (hop : cmd[2] = false) (harg : cmd[1] = false) :
    0b00#2 ++ BitVec.ofBool cmd[0] = cmd := by
  revert cmd; decide

theorem isReservedWord_of_bits {cmd : BitVec 3} (hop : cmd[2] = false) (harg : cmd[1] = true) :
    isReservedWord cmd = true := by
  revert cmd; decide

theorem decodeCommand_wellFormed (cmd : BitVec 3) (tag : Tag) :
    (decodeCommand cmd tag).wellFormed = true := by
  obtain ⟨-, h⟩ | ⟨hop, harg, h⟩ | ⟨-, -, h⟩ := decodeCommand_cases cmd tag
  · rw [h]; rfl
  · rw [h]; exact isReservedWord_of_bits hop harg
  · rw [h]; rfl

theorem encode_decodeCommand (cmd : BitVec 3) (tag : Tag) :
    encode (decodeCommand cmd tag) = .req cmd tag := by
  obtain ⟨hop, h⟩ | ⟨-, -, h⟩ | ⟨hop, harg, h⟩ := decodeCommand_cases cmd tag
  · rw [h, encode, speed_word_eq hop]
  · rw [h, encode]
  · rw [h, encode, power_word_eq hop harg]

/-- A word of one bit is `0` or `1`. -/
theorem bit_cases (word : BitVec 1) : word = 0#1 ∨ word = 1#1 := by
  revert word; decide

/-- Everything the decoder accepts, port by port. -/
theorem decode_ok_cases {w : PortWord} {i : Instr} (h : decode w = .ok i) :
    (∃ cmd tag, w = .req cmd tag ∧ i = decodeCommand cmd tag)
    ∨ (w = .tick 1#1 ∧ i = .tick)
    ∨ (∃ info, w = .txr 0#1 info ∧ i = .txdoneOk)
    ∨ (∃ info, w = .txr 1#1 info ∧ i = .txdoneErr info)
    ∨ ∃ c, w = .rst 1#1 c ∧ i = .reset (cfgAddrBits c) := by
  cases w with
  | req cmd tag => exact .inl ⟨cmd, tag, rfl, (Except.ok.inj h).symm⟩
  | tick word =>
    obtain rfl | rfl := bit_cases word
    · simp at h
    · exact .inr (.inl ⟨rfl, (Except.ok.inj h).symm⟩)
  | txr fail info =>
    obtain rfl | rfl := bit_cases fail
    · exact .inr (.inr (.inl ⟨info, rfl, (Except.ok.inj h).symm⟩))
    · exact .inr (.inr (.inr (.inl ⟨info, rfl, (Except.ok.inj h).symm⟩)))
  | rst word c =>
    obtain rfl | rfl := bit_cases word
    · simp at h
    · exact .inr (.inr (.inr (.inr ⟨c, rfl, (Except.ok.inj h).symm⟩)))

theorem wellFormed_of_decode {w : PortWord} {i : Instr} (h : decode w = .ok i) :
    i.wellFormed = true := by
  obtain ⟨cmd, tag, -, rfl⟩ | ⟨-, rfl⟩ | ⟨_, -, rfl⟩ | ⟨_, -, rfl⟩ | ⟨c, -, rfl⟩ := decode_ok_cases h
  · exact decodeCommand_wellFormed cmd tag
  all_goals rfl

theorem encode_of_decode {w : PortWord} {i : Instr} (h : decode w = .ok i) :
    encode i = canonicalWord w := by
  obtain ⟨cmd, tag, rfl, rfl⟩ | ⟨rfl, rfl⟩ | ⟨_, rfl, rfl⟩ | ⟨_, rfl, rfl⟩ | ⟨c, rfl, rfl⟩ :=
    decode_ok_cases h
  · exact encode_decodeCommand cmd tag
  · rfl
  · rfl
  · rfl
  · rw [encode, cfgAddrWord_cfgAddrBits, canonicalWord]

end Sys2Proof

/-! ### The statements -/

namespace Sys2Proof.Proofs

open Sys2Proof Sys2Proof.Machine

/-- Settles O1: each format carries its fields without loss; the words of format C and of RESET need the
event to be well formed. -/
theorem decodeOfEncodeIsTheEvent : Obligations.DecodeOfEncodeIsTheEvent :=
  fun _ => decode_encode

/-- Settles O2: port by port, the bits that the decoder reads are those that the encoder writes. -/
theorem encodeOfDecodeIsTheWord : Obligations.EncodeOfDecodeIsTheWord :=
  fun _ _ h => ⟨wellFormed_of_decode h, encode_of_decode h⟩

/-- Settles O31: a reserved word decodes to a `badcmd`, which is dropped. -/
theorem reservedCommandIsDropped : Obligations.ReservedCommandIsDropped := by
  intro word tag s hword
  have hreserved : isReservedWord word = true := by simpa [isReservedWord] using hword
  exact ⟨decode_reserved_word hreserved tag, exec_badcmd_eq word tag s⟩

end Sys2Proof.Proofs

/-! The layer of facts about events that the statements on the Update Scheduler share: the kinds of event, what
requests write, and once, as `EventStep`, everything that an event can do to a state
(42_scheduler.md R106 to R114, 60_exceptions.md R144, R145, 70_reset_and_hazards.md R167). -/

namespace Sys2Proof.Machine

/-! ### The kinds of event -/

@[simp] theorem isDone_txdoneOf (out : TxOutcome) : isDone (txdoneOf out) = true := by
  cases out <;> rfl

@[simp] theorem isRequest_txdoneOf (out : TxOutcome) : isRequest (txdoneOf out) = false := by
  cases out <;> rfl

theorem isDone_eq_true_iff (i : Instr) : isDone i = true ↔ ∃ out, i = txdoneOf out := by
  constructor
  · intro h
    cases i with
    | txdoneOk => exact ⟨.ok, rfl⟩
    | txdoneErr info => exact ⟨.err info, rfl⟩
    | _ => simp [isDone] at h
  · rintro ⟨out, rfl⟩
    exact isDone_txdoneOf out

theorem isDone_of_isRequest {i : Instr} (h : isRequest i = true) : isDone i = false := by
  cases i with
  | setpwr | setspd => rfl
  | _ => simp [isRequest] at h

theorem isReset_of_isRequest {i : Instr} (h : isRequest i = true) : isReset i = false := by
  cases i with
  | setpwr | setspd => rfl
  | _ => simp [isRequest] at h

/-- Exactly the requests have a tag. -/
theorem requestTag_eq_none_iff (i : Instr) : requestTag i = none ↔ isRequest i = false := by
  cases i <;> simp [requestTag, isRequest]

/-! ### What a list of events requests -/

theorem requestTags_cons (i : Instr) (events : List Instr) :
    requestTags (i :: events) = requestTags [i] ++ requestTags events :=
  List.filterMap_append (l := [i])

theorem requestTags_of_not_isRequest {i : Instr} (h : isRequest i = false) : requestTags [i] = [] := by
  simp [requestTags, (requestTag_eq_none_iff i).mpr h]

theorem requestTags_length_of_isRequest {i : Instr} (h : isRequest i = true) :
    (requestTags [i]).length = 1 := by
  cases htag : requestTag i with
  | none => simp [(requestTag_eq_none_iff i).mp htag] at h
  | some tag => simp [requestTags, htag]

theorem requestTags_ne_nil_of_isRequest {i : Instr} (h : isRequest i = true) : requestTags [i] ≠ [] :=
  List.ne_nil_of_length_pos (by simp [requestTags_length_of_isRequest h])

theorem fanAfter_cons (i : Instr) (events : List Instr) (fan : Bool × Level) :
    fanAfter (i :: events) fan = fanAfter events (fanAfter [i] fan) := by
  cases i <;> rfl

theorem fanAfter_of_not_isRequest {i : Instr} (h : isRequest i = false) (fan : Bool × Level) :
    fanAfter [i] fan = fan := by
  cases i with
  | setpwr | setspd => simp [isRequest] at h
  | _ => rfl

/-! ### What requests write, the timer apart -/

/-- FanState and QUEUE after the requests among the events; every other element as it was. -/
def afterRequests (events : List Instr) (s : State) : State :=
  { s with powered := (fanAfter events (s.powered, s.speed)).1,
           speed := (fanAfter events (s.powered, s.speed)).2,
           queue := s.queue ++ requestTags events }

@[simp] theorem afterRequests_addr (events : List Instr) (s : State) : (afterRequests events s).addr = s.addr := rfl
@[simp] theorem afterRequests_powered (events : List Instr) (s : State) : (afterRequests events s).powered = (fanAfter events (s.powered, s.speed)).1 := rfl
@[simp] theorem afterRequests_speed (events : List Instr) (s : State) : (afterRequests events s).speed = (fanAfter events (s.powered, s.speed)).2 := rfl
@[simp] theorem afterRequests_st (events : List Instr) (s : State) : (afterRequests events s).st = s.st := rfl
@[simp] theorem afterRequests_dtimer (events : List Instr) (s : State) : (afterRequests events s).dtimer = s.dtimer := rfl
@[simp] theorem afterRequests_queue (events : List Instr) (s : State) : (afterRequests events s).queue = s.queue ++ requestTags events := rfl
@[simp] theorem afterRequests_batch (events : List Instr) (s : State) : (afterRequests events s).batch = s.batch := rfl
@[simp] theorem afterRequests_cfg (events : List Instr) (s : State) : (afterRequests events s).cfg = s.cfg := rfl
@[simp] theorem afterRequests_inputs (events : List Instr) (s : State) : (afterRequests events s).inputs = s.inputs := rfl
@[simp] theorem afterRequests_outs (events : List Instr) (s : State) : (afterRequests events s).outs = s.outs := rfl

@[simp] theorem afterRequests_nil (s : State) : afterRequests [] s = s := by
  simp [afterRequests, fanAfter, requestTags]

theorem afterRequests_cons (i : Instr) (events : List Instr) (s : State) :
    afterRequests (i :: events) s = afterRequests events (afterRequests [i] s) := by
  simp [afterRequests, fanAfter_cons i events, requestTags_cons i events]

theorem afterRequests_of_not_isRequest {i : Instr} (h : isRequest i = false) (s : State) :
    afterRequests [i] s = s := by
  simp [afterRequests, fanAfter_of_not_isRequest h, requestTags_of_not_isRequest h]

/-! ### Requests and answers, by the state of the scheduler -/

theorem reqCommon_of_idle (tag : Tag) {s : State} (hst : s.st = .idle) :
    reqCommon tag s = startTimer (enqueue tag s) := by
  simp [reqCommon, hst]

theorem reqCommon_of_ne_idle (tag : Tag) {s : State} (hst : s.st ≠ .idle) :
    reqCommon tag s = enqueue tag s := by
  obtain ⟨hidle, -⟩ | ⟨-, h⟩ := reqCommon_cases tag s
  · exact absurd hidle hst
  · exact h

/-- A request in Idle starts the timer (42_scheduler.md R106). -/
theorem exec_request_of_idle {i : Instr} {s : State} (hreq : isRequest i = true) (hst : s.st = .idle) :
    exec i s = .next (startTimer (afterRequests [i] s)) := by
  cases i with
  | setpwr on tag => rw [exec_setpwr_eq, reqCommon_of_idle tag (s := setPowered on s) hst]; rfl
  | setspd lvl tag => rw [exec_setspd_eq, reqCommon_of_idle tag (s := setSpeed lvl s) hst]; rfl
  | _ => simp [isRequest] at hreq

/-- A request outside Idle leaves the timer alone (42_scheduler.md R106). -/
theorem exec_request_of_ne_idle {i : Instr} {s : State} (hreq : isRequest i = true) (hst : s.st ≠ .idle) :
    exec i s = .next (afterRequests [i] s) := by
  cases i with
  | setpwr on tag => rw [exec_setpwr_eq, reqCommon_of_ne_idle tag (s := setPowered on s) hst]; rfl
  | setspd lvl tag => rw [exec_setspd_eq, reqCommon_of_ne_idle tag (s := setSpeed lvl s) hst]; rfl
  | _ => simp [isRequest] at hreq

theorem complete_of_queue_nil (out : TxOutcome) {s : State} (hq : s.queue = []) :
    complete out s = goIdle (clearBatch (emit (resolveAll s.batch out) s)) := by
  obtain ⟨-, h⟩ | ⟨hne, -⟩ := complete_cases out s
  · exact h
  · exact absurd hq hne

theorem complete_of_queue_ne_nil (out : TxOutcome) {s : State} (hq : s.queue ≠ []) :
    complete out s = startTimer (clearBatch (emit (resolveAll s.batch out) s)) := by
  obtain ⟨hnil, -⟩ | ⟨-, h⟩ := complete_cases out s
  · exact absurd hnil hq
  · exact h

theorem exec_tick_of_ne_debouncing {s : State} (hst : s.st ≠ .debouncing) : exec .tick s = .next s := by
  obtain ⟨-, h⟩ | ⟨hdeb, -, -⟩ | ⟨hdeb, -, -⟩ := exec_tick_cases s
  · exact h
  all_goals exact absurd hdeb hst

theorem exec_tick_of_running {s : State} (hst : s.st = .debouncing) (hrun : 1 < s.dtimer) :
    exec .tick s = .next (countDown s) := by
  obtain ⟨hne, -⟩ | ⟨-, -, h⟩ | ⟨-, hover, -⟩ := exec_tick_cases s
  · exact absurd hst hne
  · exact h
  · omega

/-- The `TICK` that ends the delay performs EXPIRE, which always has a transmission to send
(42_scheduler.md R111). -/
theorem exec_tick_of_over {s : State} (hst : s.st = .debouncing) (hover : s.dtimer ≤ 1) :
    ∃ seq, transmission s.cfg s.powered s.speed s.addr = some seq
      ∧ exec .tick s = .next (emit [.txstart seq] (snapshot s)) := by
  obtain ⟨hne, -⟩ | ⟨-, hrun, -⟩ | ⟨-, -, h⟩ := exec_tick_cases s
  · exact absurd hst hne
  · omega
  · obtain ⟨seq, hseq, hexpire⟩ := expire_next s
    exact ⟨seq, hseq, h.trans hexpire⟩

/-- A RESET with an Address of the block (70_reset_and_hazards.md R167). -/
theorem exec_reset_addressBits (a : Address) (s : State) :
    exec (.reset (addressBits a)) s = .next (resetRegisters a s) :=
  (exec_reset_eq_next_iff _ s _).mpr ⟨a, addressOf_addressBits a, rfl⟩

/-! ### Everything an event can do -/

/-- The ways an event takes a state to the next one. -/
inductive EventStep (i : Instr) (s : State) : State → Prop
  | requestInIdle (hreq : isRequest i = true) (hst : s.st = .idle) :
      EventStep i s (startTimer (afterRequests [i] s))
  | requestElsewhere (hreq : isRequest i = true) (hst : s.st ≠ .idle) :
      EventStep i s (afterRequests [i] s)
  | reservedWord (word : BitVec 3) (tag : Tag) (hi : i = .badcmd word tag) : EventStep i s s
  | tickIgnored (hi : i = .tick) (hst : s.st ≠ .debouncing) : EventStep i s s
  | tickCounts (hi : i = .tick) (hst : s.st = .debouncing) (hrun : 1 < s.dtimer) :
      EventStep i s (countDown s)
  | tickExpires (hi : i = .tick) (hst : s.st = .debouncing) (hover : s.dtimer ≤ 1) (seq : List Nat)
      (hseq : transmission s.cfg s.powered s.speed s.addr = some seq) :
      EventStep i s (emit [.txstart seq] (snapshot s))
  | lastAnswer (out : TxOutcome) (hi : i = txdoneOf out) (hst : s.st = .transmitting)
      (hq : s.queue = []) : EventStep i s (goIdle (clearBatch (emit (resolveAll s.batch out) s)))
  | answerWithQueue (out : TxOutcome) (hi : i = txdoneOf out) (hst : s.st = .transmitting)
      (hq : s.queue ≠ []) : EventStep i s (startTimer (clearBatch (emit (resolveAll s.batch out) s)))
  | strayAnswer (out : TxOutcome) (hi : i = txdoneOf out) (hst : s.st ≠ .transmitting) : EventStep i s s
  | reset (a : Address) (hi : i = .reset (addressBits a)) : EventStep i s (resetRegisters a s)

theorem exec_of_eventStep {i : Instr} {s t : State} (h : EventStep i s t) : exec i s = .next t := by
  cases h with
  | requestInIdle hreq hst => exact exec_request_of_idle hreq hst
  | requestElsewhere hreq hst => exact exec_request_of_ne_idle hreq hst
  | reservedWord word tag hi => rw [hi]; exact exec_badcmd_eq word tag s
  | tickIgnored hi hst => rw [hi]; exact exec_tick_of_ne_debouncing hst
  | tickCounts hi hst hrun => rw [hi]; exact exec_tick_of_running hst hrun
  | tickExpires hi hst hover seq hseq =>
    obtain ⟨seq', hseq', hexec⟩ := exec_tick_of_over hst hover
    obtain rfl := Option.some.inj (hseq.symm.trans hseq')
    rw [hi]; exact hexec
  | lastAnswer out hi hst hq =>
    rw [hi, exec_txdoneOf_of_transmitting out hst, complete_of_queue_nil out hq]
  | answerWithQueue out hi hst hq =>
    rw [hi, exec_txdoneOf_of_transmitting out hst, complete_of_queue_ne_nil out hq]
  | strayAnswer out hi hst => rw [hi]; exact exec_txdoneOf_of_not_transmitting out hst
  | reset a hi => rw [hi]; exact exec_reset_addressBits a s

theorem eventStep_of_request {i : Instr} (hreq : isRequest i = true) (s : State) : ∃ t, EventStep i s t := by
  by_cases hst : s.st = .idle
  · exact ⟨_, .requestInIdle hreq hst⟩
  · exact ⟨_, .requestElsewhere hreq hst⟩

theorem eventStep_tick (s : State) : ∃ t, EventStep .tick s t := by
  by_cases hst : s.st = .debouncing
  · by_cases hrun : 1 < s.dtimer
    · exact ⟨_, .tickCounts rfl hst hrun⟩
    · obtain ⟨seq, hseq⟩ := transmission_exists s.cfg s.powered s.speed s.addr
      exact ⟨_, .tickExpires rfl hst (Nat.le_of_not_lt hrun) seq hseq⟩
  · exact ⟨s, .tickIgnored rfl hst⟩

theorem eventStep_txdoneOf (out : TxOutcome) (s : State) : ∃ t, EventStep (txdoneOf out) s t := by
  by_cases hst : s.st = .transmitting
  · by_cases hq : s.queue = []
    · exact ⟨_, .lastAnswer out rfl hst hq⟩
    · exact ⟨_, .answerWithQueue out rfl hst hq⟩
  · exact ⟨s, .strayAnswer out rfl hst⟩

theorem exists_addressBits_eq {bits : List Bool} (hlen : bits.length = addrLen) :
    ∃ a, bits = addressBits a := by
  cases ha : addressOf bits with
  | none => exact absurd hlen ((addressOf_eq_none_iff bits).mp ha)
  | some a => exact ⟨a, (addressOf_eq_some_iff bits a).mp ha⟩

/-- Only a RESET with a malformed Address has no next state (60_exceptions.md sections 1 and 4). -/
theorem exists_eventStep {i : Instr} (haddr : ∀ bits, i = .reset bits → bits.length = addrLen) (s : State) :
    ∃ t, EventStep i s t := by
  cases i with
  | setpwr on tag => exact eventStep_of_request rfl s
  | setspd lvl tag => exact eventStep_of_request rfl s
  | badcmd word tag => exact ⟨s, .reservedWord word tag rfl⟩
  | tick => exact eventStep_tick s
  | txdoneOk => exact eventStep_txdoneOf .ok s
  | txdoneErr info => exact eventStep_txdoneOf (.err info) s
  | reset bits =>
    obtain ⟨a, rfl⟩ := exists_addressBits_eq (haddr bits rfl)
    exact ⟨_, .reset a rfl⟩

theorem exists_eventStep_of_wellFormed {i : Instr} (hwf : i.wellFormed = true) (s : State) :
    ∃ t, EventStep i s t :=
  exists_eventStep (by rintro bits rfl; simpa [Instr.wellFormed] using hwf) s

/-- An event answers a next state only along one of the ways of `EventStep`. -/
theorem exec_eq_next_iff (i : Instr) (s t : State) : exec i s = .next t ↔ EventStep i s t := by
  refine ⟨fun hnext => ?_, exec_of_eventStep⟩
  have haddr : ∀ bits, i = .reset bits → bits.length = addrLen := by
    rintro bits rfl
    obtain ⟨a, ha, -⟩ := (exec_reset_eq_next_iff bits s t).mp hnext
    rw [(addressOf_eq_some_iff bits a).mp ha]; rfl
  obtain ⟨t', ht'⟩ := exists_eventStep haddr s
  obtain rfl := exec_next_unique (exec_of_eventStep ht') hnext
  exact ht'

end Sys2Proof.Machine

/-! Proofs about the invariants of Idle, Debouncing and Transmitting (10_state.md R27): what they say in each
of the three, that every event and every step keeps them, then the statements O37, O40, O41 and O53. -/

namespace Sys2Proof.Machine

/-! ### The invariants in each value of `ST` -/

theorem State.inv_iff_of_idle {s : State} (hst : s.st = .idle) :
    s.Inv ↔ s.cfg.Valid ∧ s.queue = [] ∧ s.batch = [] ∧ s.dtimer = 0 := by
  simp [State.Inv, hst]

theorem State.inv_iff_of_debouncing {s : State} (hst : s.st = .debouncing) :
    s.Inv ↔ s.cfg.Valid ∧ s.queue ≠ [] ∧ s.batch = [] ∧ 1 ≤ s.dtimer ∧ s.dtimer ≤ s.cfg.debounceTicks := by
  simp [State.Inv, hst]

theorem State.inv_iff_of_transmitting {s : State} (hst : s.st = .transmitting) :
    s.Inv ↔ s.cfg.Valid ∧ s.batch ≠ [] ∧ s.dtimer = 0 := by
  simp [State.Inv, hst]

/-! ### How the updates of an event meet the invariants -/

/-- Entry to Debouncing: a fresh timer with a request waiting. -/
theorem startTimer_inv {s : State} (hvalid : s.cfg.Valid) (hqueue : s.queue ≠ []) (hbatch : s.batch = []) :
    (startTimer s).Inv :=
  (State.inv_iff_of_debouncing (startTimer_st s)).mpr
    ⟨hvalid, hqueue, hbatch, hvalid.2.2, Nat.le_refl _⟩

/-- Requests only lengthen the queue. -/
theorem afterRequests_inv {s : State} (hinv : s.Inv) (hst : s.st ≠ .idle) (events : List Instr) :
    (afterRequests events s).Inv := by
  obtain ⟨hvalid, -, hdeb, htx⟩ := hinv
  refine ⟨hvalid, fun h => absurd h hst, fun h => ?_, htx⟩
  obtain ⟨hqueue, htimer⟩ := hdeb h
  exact ⟨List.append_ne_nil_of_left_ne_nil hqueue _, htimer⟩

theorem eventStep_keeps_inv {i : Instr} {s t : State} (h : EventStep i s t) (hinv : s.Inv) : t.Inv := by
  have hvalid : s.cfg.Valid := hinv.1
  cases h with
  | requestInIdle hreq hst =>
    obtain ⟨-, -, hbatch, -⟩ := (State.inv_iff_of_idle hst).mp hinv
    exact startTimer_inv hvalid
      (List.append_ne_nil_of_right_ne_nil _ (requestTags_ne_nil_of_isRequest hreq)) hbatch
  | requestElsewhere _ hst => exact afterRequests_inv hinv hst [i]
  | reservedWord | tickIgnored | strayAnswer => exact hinv
  | tickCounts _ hst hrun =>
    obtain ⟨-, hqueue, hbatch, -, hle⟩ := (State.inv_iff_of_debouncing hst).mp hinv
    exact (State.inv_iff_of_debouncing (s := countDown s) hst).mpr
      ⟨hvalid, hqueue, hbatch, Nat.le_sub_one_of_lt hrun, (Nat.sub_le _ 1).trans hle⟩
  | tickExpires _ hst _ seq _ =>
    obtain ⟨-, hqueue, -⟩ := (State.inv_iff_of_debouncing hst).mp hinv
    exact (State.inv_iff_of_transmitting (s := emit [.txstart seq] (snapshot s)) rfl).mpr
      ⟨hvalid, hqueue, rfl⟩
  | lastAnswer out _ hst hq =>
    obtain ⟨-, -, htimer⟩ := (State.inv_iff_of_transmitting hst).mp hinv
    exact (State.inv_iff_of_idle (goIdle_st _)).mpr ⟨hvalid, hq, rfl, htimer⟩
  | answerWithQueue out _ _ hq => exact startTimer_inv hvalid hq rfl
  | reset a => exact (State.inv_iff_of_idle (resetRegisters_st a s)).mpr ⟨hvalid, rfl, rfl, rfl⟩

theorem exec_keeps_inv {i : Instr} {s t : State} (hnext : exec i s = .next t) (hinv : s.Inv) : t.Inv :=
  eventStep_keeps_inv ((exec_eq_next_iff i s t).mp hnext) hinv

/-- What the environment presents next is no part of the invariants. -/
theorem setInputs_inv_iff (words : List PortWord) (s : State) : (setInputs words s).Inv ↔ s.Inv := Iff.rfl

theorem resetWith_inv {c : Config} (hvalid : c.Valid) (a : Address) : (State.resetWith c a).Inv :=
  (State.inv_iff_of_idle rfl).mpr ⟨hvalid, rfl, rfl, rfl⟩

theorem reference_valid : Config.reference.Valid :=
  ⟨by decide, by decide, Nat.le_add_left 1 _⟩

/-! ### One step -/

theorem step_of_nothing_presented {s : State} (hin : s.inputs = []) : step s = .next s := by
  simp [step, fetch, hin]

theorem step_of_event {s : State} {w : PortWord} {rest : List PortWord} {i : Instr}
    (hin : s.inputs = w :: rest) (hdec : decode w = .ok i) : step s = exec i (setInputs rest s) := by
  simp [step, fetch, hin, hdec]

theorem step_of_no_event {s : State} {w : PortWord} {rest : List PortWord} {r : DecodeReject}
    (hin : s.inputs = w :: rest) (hdec : decode w = .error r) : step s = .next (setInputs rest s) := by
  simp [step, fetch, hin, hdec]

/-- Nothing is presented, or the next word is no event, or it is one. -/
theorem presented_cases (s : State) :
    s.inputs = []
    ∨ (∃ w rest r, s.inputs = w :: rest ∧ decode w = .error r)
    ∨ ∃ w rest i, s.inputs = w :: rest ∧ decode w = .ok i := by
  cases hin : s.inputs with
  | nil => exact .inl rfl
  | cons w rest =>
    cases hdec : decode w with
    | error r => exact .inr (.inl ⟨w, rest, r, rfl, hdec⟩)
    | ok i => exact .inr (.inr ⟨w, rest, i, rfl, hdec⟩)

theorem step_keeps_inv {s t : State} (hnext : step s = .next t) (hinv : s.Inv) : t.Inv := by
  obtain hin | ⟨w, rest, r, hin, hdec⟩ | ⟨w, rest, i, hin, hdec⟩ := presented_cases s
  · obtain rfl := Host.Outcome.next.inj ((step_of_nothing_presented hin).symm.trans hnext)
    exact hinv
  · obtain rfl := Host.Outcome.next.inj ((step_of_no_event hin hdec).symm.trans hnext)
    exact (setInputs_inv_iff rest s).mpr hinv
  · exact exec_keeps_inv ((step_of_event hin hdec).symm.trans hnext) ((setInputs_inv_iff rest s).mpr hinv)

theorem exec_completes {i : Instr} (hwf : i.wellFormed = true) (s : State) : ∃ t, exec i s = .next t := by
  obtain ⟨t, ht⟩ := exists_eventStep_of_wellFormed hwf s
  exact ⟨t, exec_of_eventStep ht⟩

theorem step_completes (s : State) : ∃ t, step s = .next t := by
  obtain hin | ⟨w, rest, r, hin, hdec⟩ | ⟨w, rest, i, hin, hdec⟩ := presented_cases s
  · exact ⟨s, step_of_nothing_presented hin⟩
  · exact ⟨_, step_of_no_event hin hdec⟩
  · rw [step_of_event hin hdec]
    exact exec_completes (wellFormed_of_decode hdec) _

end Sys2Proof.Machine

/-! ### The statements -/

namespace Sys2Proof.Proofs

open Sys2Proof Sys2Proof.Machine

/-- Settles O41: a step takes a word, which the invariants do not mention, and runs at most one event. -/
theorem everyStepKeepsTheInvariants : Obligations.EveryStepKeepsTheInvariants :=
  fun _ _ hinv hnext => step_keeps_inv hnext hinv

/-- Settles O37: only a malformed Address stops an event, and no word decodes to such a RESET. -/
theorem everyEventAndEveryStepCompletes : Obligations.EveryEventAndEveryStepCompletes :=
  ⟨fun _ s hwf => exec_completes hwf s, step_completes⟩

/-- Settles O40: the reset state is Idle with everything empty. -/
theorem resetStateSatisfiesTheInvariants : Obligations.ResetStateSatisfiesTheInvariants :=
  ⟨fun _ a hvalid => ⟨resetWith_inv hvalid a, rfl, rfl, rfl, rfl, rfl, rfl, rfl⟩,
    resetWith_inv reference_valid _, rfl⟩

/-- Settles O53: the equation of `step` for each thing that can stand at the head of the inputs. -/
theorem stepRunsTheDecodedEvent : Obligations.StepRunsTheDecodedEvent :=
  fun _ _ _ => ⟨fun _ => step_of_event, fun _ => step_of_no_event, step_of_nothing_presented⟩

end Sys2Proof.Proofs

/-! Proofs that the block never looks at a tag or an error value (30_encoding.md R52, R57, 10_state.md R19):
renaming commutes with decoding and with every way an event can go, then the statement O56. -/

namespace Sys2Proof.Machine

/-- Rename in an event. -/
def renameInstr (f : Tag → Tag) (g : ErrInfo → ErrInfo) : Instr → Instr
  | .setpwr on tag => .setpwr on (f tag)
  | .setspd lvl tag => .setspd lvl (f tag)
  | .badcmd word tag => .badcmd word (f tag)
  | .tick => .tick
  | .txdoneOk => .txdoneOk
  | .txdoneErr info => .txdoneErr (g info)
  | .reset bits => .reset bits

section Renaming

variable (f : Tag → Tag) (g : ErrInfo → ErrInfo)

/-! ### Words -/

theorem decodeCommand_rename (cmd : BitVec 3) (tag : Tag) :
    decodeCommand cmd (f tag) = renameInstr f g (decodeCommand cmd tag) := by
  obtain ⟨hop, -⟩ | ⟨hop, harg, -⟩ | ⟨hop, harg, -⟩ := decodeCommand_cases cmd tag
  · simp [decodeCommand, hop, renameInstr]
  · simp [decodeCommand, hop, harg, renameInstr]
  · simp [decodeCommand, hop, harg, renameInstr]

/-- A renamed word decodes to the renamed event, and is no event where the word was none. -/
theorem decode_renameWord (w : PortWord) :
    decode (renameWord f g w) = (decode w).map (renameInstr f g) := by
  cases w with
  | req cmd tag => exact congrArg Except.ok (decodeCommand_rename f g cmd tag)
  | tick word => obtain rfl | rfl := bit_cases word <;> rfl
  | txr fail info => obtain rfl | rfl := bit_cases fail <;> rfl
  | rst word c => obtain rfl | rfl := bit_cases word <;> rfl

/-! ### Events -/

@[simp] theorem isRequest_renameInstr (i : Instr) : isRequest (renameInstr f g i) = isRequest i := by
  cases i <;> rfl

theorem renameInstr_txdoneOf (out : TxOutcome) :
    renameInstr f g (txdoneOf out) = txdoneOf (renameOutcome g out) := by
  cases out <;> rfl

theorem requestTags_renameInstr (i : Instr) :
    requestTags [renameInstr f g i] = (requestTags [i]).map f := by
  cases i <;> rfl

theorem fanAfter_renameInstr (i : Instr) (fan : Bool × Level) :
    fanAfter [renameInstr f g i] fan = fanAfter [i] fan := by
  cases i <;> rfl

/-! ### States -/

@[simp] theorem renameState_queue (s : State) : (renameState f g s).queue = s.queue.map f := rfl
@[simp] theorem renameState_inputs (s : State) :
    (renameState f g s).inputs = s.inputs.map (renameWord f g) := rfl

theorem afterRequests_renameState (i : Instr) (s : State) :
    afterRequests [renameInstr f g i] (renameState f g s) = renameState f g (afterRequests [i] s) := by
  simp [afterRequests, renameState, requestTags_renameInstr, fanAfter_renameInstr]

theorem emit_renameState (events : List OutEvent) (s : State) :
    emit (events.map (renameOut f g)) (renameState f g s) = renameState f g (emit events s) := by
  simp [emit, renameState]

theorem resolveAll_rename (batch : List Tag) (out : TxOutcome) :
    resolveAll (batch.map f) (renameOutcome g out) = (resolveAll batch out).map (renameOut f g) := by
  simp [resolveAll, renameOut]

/-- The answer's `RESOLVE` events are those of the renamed batch. -/
theorem emit_resolveAll_renameState (out : TxOutcome) (s : State) :
    emit (resolveAll (renameState f g s).batch (renameOutcome g out)) (renameState f g s)
      = renameState f g (emit (resolveAll s.batch out) s) := by
  rw [← emit_renameState, ← resolveAll_rename]
  rfl

theorem EventStep.congr_next {i : Instr} {s t t' : State} (h : EventStep i s t) (heq : t = t') :
    EventStep i s t' :=
  heq ▸ h

/-- Every way an event can go is open to the renamed event in the renamed state. -/
theorem eventStep_rename {i : Instr} {s t : State} (h : EventStep i s t) :
    EventStep (renameInstr f g i) (renameState f g s) (renameState f g t) := by
  cases h with
  | requestInIdle hreq hst =>
    have hstate := congrArg startTimer (afterRequests_renameState f g i s)
    have hreq' : isRequest (renameInstr f g i) = true := (isRequest_renameInstr f g i).trans hreq
    exact (EventStep.requestInIdle (s := renameState f g s) hreq' hst).congr_next hstate
  | requestElsewhere hreq hst =>
    have hstate := afterRequests_renameState f g i s
    have hreq' : isRequest (renameInstr f g i) = true := (isRequest_renameInstr f g i).trans hreq
    exact (EventStep.requestElsewhere (s := renameState f g s) hreq' hst).congr_next hstate
  | reservedWord word tag hi => exact .reservedWord word (f tag) (by rw [hi]; rfl)
  | tickIgnored hi hst => exact .tickIgnored (by rw [hi]; rfl) hst
  | tickCounts hi hst hrun => exact .tickCounts (by rw [hi]; rfl) hst hrun
  | tickExpires hi hst hover seq hseq =>
    have hstate := emit_renameState f g [.txstart seq] (snapshot s)
    have hi' : renameInstr f g i = .tick := by rw [hi]; rfl
    exact (EventStep.tickExpires (s := renameState f g s) hi' hst hover seq hseq).congr_next hstate
  | lastAnswer out hi hst hq =>
    have hstate := congrArg (goIdle ∘ clearBatch) (emit_resolveAll_renameState f g out s)
    have hi' : renameInstr f g i = txdoneOf (renameOutcome g out) := by rw [hi, renameInstr_txdoneOf]
    exact (EventStep.lastAnswer (s := renameState f g s) _ hi' hst (by simp [hq])).congr_next hstate
  | answerWithQueue out hi hst hq =>
    have hstate := congrArg (startTimer ∘ clearBatch) (emit_resolveAll_renameState f g out s)
    have hi' : renameInstr f g i = txdoneOf (renameOutcome g out) := by rw [hi, renameInstr_txdoneOf]
    exact (EventStep.answerWithQueue (s := renameState f g s) _ hi' hst (by simpa using hq)).congr_next hstate
  | strayAnswer out hi hst =>
    exact .strayAnswer (renameOutcome g out) (by rw [hi, renameInstr_txdoneOf]) hst
  | reset a hi => exact .reset a (by rw [hi]; rfl)

/-- The words of a renamed state, once the next one is known. -/
theorem renameState_inputs_of_cons {s : State} {w : PortWord} {rest : List PortWord}
    (hin : s.inputs = w :: rest) :
    (renameState f g s).inputs = renameWord f g w :: rest.map (renameWord f g) := by
  rw [renameState_inputs, hin, List.map_cons]

theorem step_rename {s t : State} (hnext : step s = .next t) :
    step (renameState f g s) = .next (renameState f g t) := by
  obtain hin | ⟨w, rest, r, hin, hdec⟩ | ⟨w, rest, i, hin, hdec⟩ := presented_cases s
  · obtain rfl := Host.Outcome.next.inj ((step_of_nothing_presented hin).symm.trans hnext)
    exact step_of_nothing_presented (by simp [hin])
  · obtain rfl := Host.Outcome.next.inj ((step_of_no_event hin hdec).symm.trans hnext)
    have hdec' : decode (renameWord f g w) = .error r := by rw [decode_renameWord, hdec]; rfl
    exact step_of_no_event (renameState_inputs_of_cons f g hin) hdec'
  · have hexec : exec i (setInputs rest s) = .next t := (step_of_event hin hdec).symm.trans hnext
    have hdec' : decode (renameWord f g w) = .ok (renameInstr f g i) := by
      rw [decode_renameWord, hdec]; rfl
    rw [step_of_event (renameState_inputs_of_cons f g hin) hdec']
    exact exec_of_eventStep (eventStep_rename f g ((exec_eq_next_iff i _ t).mp hexec))

end Renaming

end Sys2Proof.Machine

/-! ### The statement -/

namespace Sys2Proof.Proofs

open Sys2Proof Sys2Proof.Machine

/-- Settles O56: every way a step can go is the same way under the new names. -/
theorem stepNeverInspectsTagsOrErrors : Obligations.StepNeverInspectsTagsOrErrors :=
  fun f g _ _ => step_rename f g

end Sys2Proof.Proofs

/-! Proofs about what a run without RESET requests, starts and resolves (10_state.md R27, 42_scheduler.md R122,
70_reset_and_hazards.md R172): first how runs and the counts of outputs behave, then one balance per event and
per run, then the statements O42 to O45. -/

namespace Sys2Proof.Machine

/-! ### Runs -/

@[simp] theorem runEvents_nil (s : State) : runEvents [] s = .next s := rfl

theorem runEvents_cons_of_next {i : Instr} {s m : State} (hexec : exec i s = .next m) (events : List Instr) :
    runEvents (i :: events) s = runEvents events m := by
  simp [runEvents, hexec]

theorem runEvents_singleton (i : Instr) (s : State) : runEvents [i] s = exec i s := by
  cases h : exec i s <;> simp [runEvents, h]

theorem runEvents_append_of_next {events : List Instr} {s m : State}
    (hrun : runEvents events s = .next m) (events' : List Instr) :
    runEvents (events ++ events') s = runEvents events' m := by
  induction events generalizing s with
  | nil =>
    obtain rfl := Host.Outcome.next.inj hrun
    rfl
  | cons i events ih =>
    cases hexec : exec i s with
    | next s' =>
      rw [runEvents_cons_of_next hexec] at hrun
      rw [List.cons_append, runEvents_cons_of_next hexec, ih hrun]
    | fault r => simp [runEvents, hexec] at hrun
    | refused r => simp [runEvents, hexec] at hrun

/-- What holds of the empty run and is kept by one more event in front holds of every run without RESET. -/
theorem runEvents_induction {P : List Instr → State → State → Prop} (hnil : ∀ s, P [] s s)
    (hcons : ∀ i events s m t, EventStep i s m → isReset i = false → P events m t → P (i :: events) s t)
    {events : List Instr} {s t : State} (hreset : ∀ i ∈ events, isReset i = false)
    (hrun : runEvents events s = .next t) : P events s t := by
  induction events generalizing s with
  | nil =>
    obtain rfl := Host.Outcome.next.inj hrun
    exact hnil s
  | cons i events ih =>
    obtain ⟨hi, hevents⟩ := List.forall_mem_cons.mp hreset
    cases hexec : exec i s with
    | next m =>
      rw [runEvents_cons_of_next hexec] at hrun
      exact hcons i events s m t ((exec_eq_next_iff i s m).mp hexec) hi (ih hevents hrun)
    | fault r => simp [runEvents, hexec] at hrun
    | refused r => simp [runEvents, hexec] at hrun

/-- An invariant of every event without RESET is one of every run without RESET. -/
theorem runEvents_keeps {P : State → Prop} (hstep : ∀ i s t, EventStep i s t → isReset i = false → P s → P t)
    {events : List Instr} {s t : State} (hreset : ∀ i ∈ events, isReset i = false)
    (hrun : runEvents events s = .next t) : P s → P t :=
  runEvents_induction (P := fun _ s t => P s → P t) (fun _ => id)
    (fun i _ s m _ h hi ih => ih ∘ hstep i s m h hi) hreset hrun

theorem runEvents_keeps_inv {events : List Instr} {s t : State} (hreset : ∀ i ∈ events, isReset i = false)
    (hrun : runEvents events s = .next t) : s.Inv → t.Inv :=
  runEvents_keeps (fun _ _ _ h _ => eventStep_keeps_inv h) hreset hrun

theorem acceptedDones_cons_of_next {i : Instr} {s m : State} (hexec : exec i s = .next m)
    (events : List Instr) :
    acceptedDones (i :: events) s
      = (if isDone i ∧ s.st = .transmitting then 1 else 0) + acceptedDones events m := by
  simp [acceptedDones, hexec]

/-! ### Counting outputs -/

@[simp] theorem resolvedTags_append (xs ys : List OutEvent) :
    resolvedTags (xs ++ ys) = resolvedTags xs ++ resolvedTags ys := List.filterMap_append

@[simp] theorem resolvedTags_nil : resolvedTags [] = [] := rfl

@[simp] theorem resolvedTags_txstart (seq : List Nat) (events : List OutEvent) :
    resolvedTags (.txstart seq :: events) = resolvedTags events := rfl

@[simp] theorem resolvedTags_resolveAll (batch : List Tag) (out : TxOutcome) :
    resolvedTags (resolveAll batch out) = batch := by
  induction batch with
  | nil => rfl
  | cons tag batch ih => exact congrArg (tag :: ·) ih

@[simp] theorem txstartCount_append (xs ys : List OutEvent) :
    txstartCount (xs ++ ys) = txstartCount xs + txstartCount ys := List.countP_append

@[simp] theorem txstartCount_txstart (seq : List Nat) : txstartCount [.txstart seq] = 1 := rfl

@[simp] theorem txstartCount_resolveAll (batch : List Tag) (out : TxOutcome) :
    txstartCount (resolveAll batch out) = 0 := by
  induction batch with
  | nil => rfl
  | cons tag batch ih => exact ih

theorem inFlight_congr {s t : State} (hst : s.st = t.st) : inFlight s = inFlight t := by
  simp [inFlight, hst]

theorem inFlight_le_one (s : State) : inFlight s ≤ 1 := by
  unfold inFlight; split <;> omega

/-! ### Outputs are only added -/

theorem eventStep_outs_prefix {i : Instr} {s t : State} (h : EventStep i s t) : s.outs <+: t.outs := by
  cases h with
  | tickExpires | lastAnswer | answerWithQueue => exact List.prefix_append _ _
  | _ => exact List.prefix_rfl

theorem runEvents_outs {events : List Instr} {s t : State} (hreset : ∀ i ∈ events, isReset i = false)
    (hrun : runEvents events s = .next t) : ∃ new, t.outs = s.outs ++ new := by
  obtain ⟨new, hnew⟩ : s.outs <+: t.outs :=
    runEvents_induction (P := fun _ s t => s.outs <+: t.outs) (fun _ => List.prefix_rfl)
      (fun _ _ _ _ _ h _ ih => (eventStep_outs_prefix h).trans ih) hreset hrun
  exact ⟨new, hnew.symm⟩

/-! ### Every accepted tag is in one place -/

/-- The tags resolved so far, then those in the batch, then those in the queue. -/
def acceptedTags (s : State) : List Tag := resolvedTags s.outs ++ s.batch ++ s.queue

theorem eventStep_acceptedTags {i : Instr} {s t : State} (h : EventStep i s t) (hreset : isReset i = false)
    (hinv : s.Inv) : acceptedTags t = acceptedTags s ++ requestTags [i] := by
  cases h with
  | requestInIdle | requestElsewhere => simp [acceptedTags]
  | reservedWord word tag hi => subst hi; simp [acceptedTags, requestTags, requestTag]
  | tickIgnored hi | tickCounts hi => subst hi; simp [acceptedTags, requestTags, requestTag]
  | tickExpires hi hst =>
    obtain ⟨-, -, hbatch, -⟩ := (State.inv_iff_of_debouncing hst).mp hinv
    subst hi
    simp [acceptedTags, requestTags, requestTag, hbatch]
  | lastAnswer out hi | answerWithQueue out hi | strayAnswer out hi =>
    have hnone : requestTags [i] = [] := requestTags_of_not_isRequest (by simp [hi])
    simp [acceptedTags, hnone]
  | reset a hi => simp [hi, isReset] at hreset

theorem runEvents_acceptedTags {events : List Instr} {s t : State} (hreset : ∀ i ∈ events, isReset i = false)
    (hrun : runEvents events s = .next t) :
    s.Inv → acceptedTags t = acceptedTags s ++ requestTags events := by
  refine runEvents_induction
    (P := fun events s t => s.Inv → acceptedTags t = acceptedTags s ++ requestTags events)
    (fun s _ => by simp [requestTags]) (fun i events s m t h hi ih hinv => ?_) hreset hrun
  rw [ih (eventStep_keeps_inv h hinv), eventStep_acceptedTags h hi hinv, requestTags_cons i events,
    List.append_assoc]

/-! ### Transmissions started and answered -/

theorem eventStep_txstartCount {i : Instr} {s t : State} (h : EventStep i s t) (hreset : isReset i = false) :
    txstartCount t.outs + inFlight s
      = txstartCount s.outs + (if isDone i ∧ s.st = .transmitting then 1 else 0) + inFlight t := by
  cases h with
  | requestInIdle hreq hst => simp [isDone_of_isRequest hreq, inFlight, hst]
  | requestElsewhere hreq => simp [isDone_of_isRequest hreq, inFlight_congr (afterRequests_st [i] s)]
  | reservedWord word tag hi | tickIgnored hi => subst hi; simp [isDone]
  | tickCounts hi => subst hi; simp [isDone, inFlight_congr (countDown_st s)]
  | tickExpires hi hst => subst hi; simp [isDone, inFlight, hst]
  | lastAnswer out hi hst | answerWithQueue out hi hst => simp [hi, inFlight, hst]
  | strayAnswer out hi hst => simp [hst]
  | reset a hi => simp [hi, isReset] at hreset

theorem runEvents_txstartCount {events : List Instr} {s t : State} (hreset : ∀ i ∈ events, isReset i = false)
    (hrun : runEvents events s = .next t) :
    txstartCount t.outs + inFlight s = txstartCount s.outs + acceptedDones events s + inFlight t := by
  refine runEvents_induction
    (P := fun events s t =>
      txstartCount t.outs + inFlight s = txstartCount s.outs + acceptedDones events s + inFlight t)
    (fun s => rfl) (fun i events s m t h hi ih => ?_) hreset hrun
  have hstep := eventStep_txstartCount h hi
  rw [acceptedDones_cons_of_next (exec_of_eventStep h)]
  omega

/-! ### Transmissions and requests -/

/-- Every transmission takes at least one request out of the queue. -/
theorem eventStep_txstart_le {i : Instr} {s t : State} (h : EventStep i s t) (hinv : s.Inv) :
    txstartCount t.outs + t.queue.length
      ≤ txstartCount s.outs + s.queue.length + (requestTags [i]).length := by
  cases h with
  | requestInIdle | requestElsewhere => simp [Nat.add_assoc]
  | tickExpires hi hst =>
    obtain ⟨-, hqueue, -⟩ := (State.inv_iff_of_debouncing hst).mp hinv
    have hpos : 1 ≤ s.queue.length := List.length_pos_of_ne_nil hqueue
    simp only [emit_outs, snapshot_outs, txstartCount_append, txstartCount_txstart, emit_queue,
      snapshot_queue, List.length_nil]
    omega
  | reservedWord | tickIgnored | tickCounts | strayAnswer => exact Nat.le_add_right _ _
  | lastAnswer | answerWithQueue => simp
  | reset => simp [Nat.add_assoc]

theorem runEvents_txstart_le {events : List Instr} {s t : State} (hreset : ∀ i ∈ events, isReset i = false)
    (hrun : runEvents events s = .next t) :
    s.Inv → txstartCount t.outs + t.queue.length
      ≤ txstartCount s.outs + s.queue.length + (requestTags events).length := by
  refine runEvents_induction
    (P := fun events s t => s.Inv → txstartCount t.outs + t.queue.length
      ≤ txstartCount s.outs + s.queue.length + (requestTags events).length)
    (fun s _ => Nat.le_add_right _ _) (fun i events s m t h _ ih hinv => ?_) hreset hrun
  have hstep := eventStep_txstart_le h hinv
  have hrest := ih (eventStep_keeps_inv h hinv)
  rw [requestTags_cons i events, List.length_append]
  omega

/-- Without a transmission no tag has left the queue. -/
def NothingSentNothingTaken (s : State) : Prop :=
  txstartCount s.outs = 0 → s.batch = [] ∧ resolvedTags s.outs = []

theorem eventStep_keeps_nothingSent {i : Instr} {s t : State} (h : EventStep i s t)
    (hs : NothingSentNothingTaken s) : NothingSentNothingTaken t := by
  cases h with
  | tickExpires => simp [NothingSentNothingTaken]
  | lastAnswer | answerWithQueue =>
    intro hzero
    obtain ⟨hbatch, hresolved⟩ := hs (by simpa using hzero)
    simp [hbatch, hresolved]
  | reset => exact fun hzero => ⟨rfl, (hs hzero).2⟩
  | _ => exact hs

/-! ### Runs from reset -/

section FromReset

variable {c : Config} {a : Address} {events : List Instr} {t : State}

/-- From reset every tag requested is resolved, in the batch or in the queue. -/
theorem acceptedTags_from_reset (hvalid : c.Valid) (hreset : ∀ i ∈ events, isReset i = false)
    (hrun : runEvents events (State.resetWith c a) = .next t) : acceptedTags t = requestTags events :=
  runEvents_acceptedTags hreset hrun (resetWith_inv hvalid a)

/-- Idle holds no request and no batch, so all its tags are resolved. -/
theorem acceptedTags_of_idle {s : State} (hinv : s.Inv) (hst : s.st = .idle) :
    acceptedTags s = resolvedTags s.outs := by
  obtain ⟨-, hqueue, hbatch, -⟩ := (State.inv_iff_of_idle hst).mp hinv
  simp [acceptedTags, hqueue, hbatch]

theorem resolvedTags_from_reset (hvalid : c.Valid) (hreset : ∀ i ∈ events, isReset i = false)
    (hrun : runEvents events (State.resetWith c a) = .next t) (hst : t.st = .idle) :
    resolvedTags t.outs = requestTags events := by
  rw [← acceptedTags_from_reset hvalid hreset hrun,
    acceptedTags_of_idle (runEvents_keeps_inv hreset hrun (resetWith_inv hvalid a)) hst]

end FromReset

end Sys2Proof.Machine

/-! ### The statements -/

namespace Sys2Proof.Proofs

open Sys2Proof Sys2Proof.Machine

/-- Settles O42: each event adds its tag at the end of the accepted ones and moves the others forward in
order; what was resolved before the run is cancelled on both sides. -/
theorem everyTagIsResolvedOnceInOrder : Obligations.EveryTagIsResolvedOnceInOrder := by
  intro events s t hinv hreset hrun
  obtain ⟨new, hnew⟩ := runEvents_outs hreset hrun
  have htags := runEvents_acceptedTags hreset hrun hinv
  exact ⟨new, hnew, by simpa [acceptedTags, hnew] using htags⟩

/-- Settles O43: the balance of each event, summed over the run. -/
theorem transmissionsStartedMatchThoseAnswered : Obligations.TransmissionsStartedMatchThoseAnswered := by
  intro events s t hreset hrun
  obtain ⟨new, hnew⟩ := runEvents_outs hreset hrun
  have hcount := runEvents_txstartCount hreset hrun
  rw [hnew, txstartCount_append] at hcount
  exact ⟨new, hnew, by omega, inFlight_le_one t⟩

/-- Settles O44: every transmission takes a request; a resolved tag needs a transmission. -/
theorem transmissionsAreNoMoreThanRequests : Obligations.TransmissionsAreNoMoreThanRequests := by
  intro c a events t hvalid hreset hrun
  have hle : txstartCount t.outs + t.queue.length ≤ 0 + 0 + (requestTags events).length :=
    runEvents_txstart_le hreset hrun (resetWith_inv hvalid a)
  refine ⟨by omega, fun hsome hst => Nat.one_le_iff_ne_zero.mpr fun hzero => hsome ?_⟩
  have hnothing : NothingSentNothingTaken t :=
    runEvents_keeps (fun _ _ _ h _ => eventStep_keeps_nothingSent h) hreset hrun (fun _ => ⟨rfl, rfl⟩)
  rw [← resolvedTags_from_reset hvalid hreset hrun hst, (hnothing hzero).2]

/-- Settles O45: in Idle the invariants leave no place for a tag but among the resolved ones. -/
theorem quiescenceMeansEveryRequestResolved : Obligations.QuiescenceMeansEveryRequestResolved := by
  intro c a events t hvalid hreset hrun hquiet
  have hst : t.st = .idle := of_decide_eq_true hquiet
  obtain ⟨-, hqueue, hbatch, htimer⟩ :=
    (State.inv_iff_of_idle hst).mp (runEvents_keeps_inv hreset hrun (resetWith_inv hvalid a))
  exact ⟨resolvedTags_from_reset hvalid hreset hrun hst, hqueue, hbatch, htimer⟩

end Sys2Proof.Proofs

/-! Proofs about what each operation answers, which elements it writes and how `ST` moves (42_scheduler.md
sections 2 to 5, 60_exceptions.md sections 1 and 4, 70_reset_and_hazards.md R167): first what an answer and an
expiring tick write, then what every event leaves alone, then the statements O24 to O30, O32 to O35, O38 and
O39. -/

namespace Sys2Proof.Machine

/-! ### Answers -/

/-- An answer with no request waiting goes to Idle (42_scheduler.md R113). -/
theorem exec_answer_of_queue_nil (out : TxOutcome) {s : State} (hst : s.st = .transmitting)
    (hq : s.queue = []) :
    exec (txdoneOf out) s = .next (goIdle (clearBatch (emit (resolveAll s.batch out) s))) := by
  rw [exec_txdoneOf_of_transmitting out hst, complete_of_queue_nil out hq]

/-- An answer with requests waiting starts a fresh timer (42_scheduler.md R113). -/
theorem exec_answer_of_queue_ne_nil (out : TxOutcome) {s : State} (hst : s.st = .transmitting)
    (hq : s.queue ≠ []) :
    exec (txdoneOf out) s = .next (startTimer (clearBatch (emit (resolveAll s.batch out) s))) := by
  rw [exec_txdoneOf_of_transmitting out hst, complete_of_queue_ne_nil out hq]

/-- Two outcomes differ only in what is resolved (42_scheduler.md R119). -/
theorem complete_eq_with_outs (out out' : TxOutcome) (s : State) :
    complete out s = { complete out' s with outs := (complete out s).outs } := by
  by_cases hq : s.queue = []
  · rw [complete_of_queue_nil out hq, complete_of_queue_nil out' hq]; rfl
  · rw [complete_of_queue_ne_nil out hq, complete_of_queue_ne_nil out' hq]; rfl

theorem resolve_mem_resolveAll {tag : Tag} {batch : List Tag} (htag : tag ∈ batch) (out : TxOutcome) :
    .resolve tag out ∈ resolveAll batch out :=
  List.mem_map_of_mem htag

/-! ### What every event leaves alone -/

theorem eventStep_cfg {i : Instr} {s t : State} (h : EventStep i s t) : t.cfg = s.cfg := by
  cases h <;> rfl

theorem eventStep_inputs {i : Instr} {s t : State} (h : EventStep i s t) : t.inputs = s.inputs := by
  cases h <;> rfl

theorem eventStep_addr {i : Instr} {s t : State} (h : EventStep i s t) (hreset : isReset i = false) :
    t.addr = s.addr := by
  cases h with
  | reset a hi => simp [hi, isReset] at hreset
  | _ => rfl

/-- FanState changes only as `fanAfter` says. -/
theorem eventStep_fan {i : Instr} {s t : State} (h : EventStep i s t) (hreset : isReset i = false) :
    (t.powered, t.speed) = fanAfter [i] (s.powered, s.speed) := by
  cases h with
  | requestInIdle | requestElsewhere => rfl
  | reservedWord word tag hi | tickIgnored hi | tickCounts hi | tickExpires hi => rw [hi]; rfl
  | lastAnswer out hi | answerWithQueue out hi | strayAnswer out hi =>
    exact (fanAfter_of_not_isRequest (by simp [hi]) _).symm
  | reset a hi => simp [hi, isReset] at hreset

theorem fanAfter_fst_of_not_setpwr {i : Instr} (h : ∀ on tag, i ≠ .setpwr on tag) (fan : Bool × Level) :
    (fanAfter [i] fan).1 = fan.1 := by
  cases i with
  | setpwr on tag => exact absurd rfl (h on tag)
  | _ => rfl

theorem fanAfter_snd_of_not_setspd {i : Instr} (h : ∀ lvl tag, i ≠ .setspd lvl tag) (fan : Bool × Level) :
    (fanAfter [i] fan).2 = fan.2 := by
  cases i with
  | setspd lvl tag => exact absurd rfl (h lvl tag)
  | _ => rfl

theorem eventStep_powered {i : Instr} {s t : State} (h : EventStep i s t) (hreset : isReset i = false)
    (hi : ∀ on tag, i ≠ .setpwr on tag) : t.powered = s.powered :=
  (congrArg Prod.fst (eventStep_fan h hreset)).trans (fanAfter_fst_of_not_setpwr hi _)

theorem eventStep_speed {i : Instr} {s t : State} (h : EventStep i s t) (hreset : isReset i = false)
    (hi : ∀ lvl tag, i ≠ .setspd lvl tag) : t.speed = s.speed :=
  (congrArg Prod.snd (eventStep_fan h hreset)).trans (fanAfter_snd_of_not_setspd hi _)

theorem exec_done_queue {i : Instr} {s t : State} (hnext : exec i s = .next t) (hdone : isDone i = true) :
    t.queue = s.queue := by
  obtain ⟨out, rfl⟩ := (isDone_eq_true_iff i).mp hdone
  by_cases hst : s.st = .transmitting
  · obtain rfl := exec_next_unique (exec_txdoneOf_of_transmitting out hst) hnext
    obtain ⟨-, -, -, hqueue, -⟩ := complete_frame out s
    exact hqueue
  · obtain rfl := exec_next_unique (exec_txdoneOf_of_not_transmitting out hst) hnext
    rfl

theorem exec_request_batch {i : Instr} {s t : State} (hnext : exec i s = .next t) (hreq : isRequest i = true) :
    t.batch = s.batch := by
  by_cases hst : s.st = .idle
  · obtain rfl := exec_next_unique (exec_request_of_idle hreq hst) hnext
    rfl
  · obtain rfl := exec_next_unique (exec_request_of_ne_idle hreq hst) hnext
    rfl

/-- A `TICK` that does not end the delay writes `DTIMER` at most. -/
theorem exec_tick_of_not_over {s t : State} (hnext : exec .tick s = .next t)
    (hwait : ¬ (s.st = .debouncing ∧ s.dtimer ≤ 1)) :
    t.st = s.st ∧ t.queue = s.queue ∧ t.batch = s.batch := by
  by_cases hst : s.st = .debouncing
  · have hrun : 1 < s.dtimer := Nat.lt_of_not_le fun hover => hwait ⟨hst, hover⟩
    obtain rfl := exec_next_unique (exec_tick_of_running hst hrun) hnext
    exact ⟨rfl, rfl, rfl⟩
  · obtain rfl := exec_next_unique (exec_tick_of_ne_debouncing hst) hnext
    exact ⟨rfl, rfl, rfl⟩

/-! ### Which event raises which error -/

/-- The four causes, each with its event (60_exceptions.md R141). -/
theorem raises_cases {i : Instr} {s : State} {cause : Cause} (h : raises i s = some cause) :
    (∃ word tag, i = .badcmd word tag ∧ cause = .illegalCommand)
    ∨ (∃ out, i = txdoneOf out ∧ s.st ≠ .transmitting ∧ cause = .spuriousCompletion)
    ∨ (∃ info, i = .txdoneErr info ∧ s.st = .transmitting ∧ cause = .transmitError info)
    ∨ ∃ bits, i = .reset bits ∧ bits.length ≠ addrLen ∧ cause = .encodingPrecondition := by
  cases i with
  | setpwr | setspd | tick => simp [raises] at h
  | badcmd word tag => exact .inl ⟨word, tag, rfl, (Option.some.inj h).symm⟩
  | txdoneOk =>
    by_cases hst : s.st = .transmitting
    · simp [raises, hst] at h
    · exact .inr (.inl ⟨.ok, rfl, hst, by simpa [raises, hst, eq_comm] using h⟩)
  | txdoneErr info =>
    by_cases hst : s.st = .transmitting
    · exact .inr (.inr (.inl ⟨info, rfl, hst, by simpa [raises, hst, eq_comm] using h⟩))
    · exact .inr (.inl ⟨.err info, rfl, hst, by simpa [raises, hst, eq_comm] using h⟩)
  | reset bits =>
    by_cases hlen : bits.length = addrLen
    · simp [raises, hlen] at h
    · exact .inr (.inr (.inr ⟨bits, rfl, hlen, by simpa [raises, hlen, eq_comm] using h⟩))

theorem exec_reset_of_malformed {bits : List Bool} (hlen : bits.length ≠ addrLen) (s : State) :
    exec (.reset bits) s = .refused .encodingPrecondition := by
  simp [exec, execReset, (addressOf_eq_none_iff bits).mpr hlen]

end Sys2Proof.Machine

/-! ### The statements -/

namespace Sys2Proof.Proofs

open Sys2Proof Sys2Proof.Machine

/-- Settles O24: a request in Idle and elsewhere, for SETPWR. -/
theorem setpwrWritesPoweredAndQueuesItsTag : Obligations.SetpwrWritesPoweredAndQueuesItsTag :=
  fun on tag _ => ⟨decode_setpwr_word on tag, exec_request_of_idle rfl, exec_request_of_ne_idle rfl⟩

/-- Settles O25: a request in Idle and elsewhere, for SETSPD. -/
theorem setspdWritesSpeedAndQueuesItsTag : Obligations.SetspdWritesSpeedAndQueuesItsTag :=
  fun lvl tag _ => ⟨decode_setspd_word lvl tag, exec_request_of_idle rfl, exec_request_of_ne_idle rfl⟩

/-- Settles O26: the three cases of a tick; EXPIRE always has a transmission. -/
theorem tickCountsDownAndExpires : Obligations.TickCountsDownAndExpires :=
  fun _ => ⟨exec_tick_of_ne_debouncing, exec_tick_of_running,
    fun hst hone => exec_tick_of_over hst (Nat.le_of_eq hone)⟩

/-- Settles O27: both ticks expire, and EXPIRE does not read `DTIMER`. -/
theorem tickWithZeroTimerExpiresToo : Obligations.TickWithZeroTimerExpiresToo := by
  intro s hst hzero
  obtain ⟨seq, hseq, hexec⟩ := exec_tick_of_over hst (hzero.trans_le zero_le_one)
  obtain ⟨seq', hseq', hexec'⟩ := exec_tick_of_over (s := { s with dtimer := 1 }) hst le_rfl
  obtain rfl := Option.some.inj (hseq.symm.trans hseq')
  exact hexec.trans hexec'.symm

/-- Settles O28: an answer with and without requests waiting, for the outcome OK. -/
theorem txdoneOkResolvesTheBatch : Obligations.TxdoneOkResolvesTheBatch :=
  fun _ hst => ⟨exec_answer_of_queue_nil .ok hst, exec_answer_of_queue_ne_nil .ok hst, fun _ => rfl⟩

/-- Settles O29: an answer with and without requests waiting, for an error. -/
theorem txdoneErrResolvesTheBatchWithTheError : Obligations.TxdoneErrResolvesTheBatchWithTheError :=
  fun e _ hst => ⟨exec_answer_of_queue_nil (.err e) hst, exec_answer_of_queue_ne_nil (.err e) hst⟩

/-- Settles O30: both outcomes are dropped outside Transmitting. -/
theorem spuriousCompletionIsDropped : Obligations.SpuriousCompletionIsDropped :=
  fun e _ hst => ⟨exec_txdoneOf_of_not_transmitting .ok hst, exec_txdoneOf_of_not_transmitting (.err e) hst⟩

/-- Settles O32: four elements are an Address of the block. -/
theorem resetLoadsEveryRegister : Obligations.ResetLoadsEveryRegister :=
  fun b0 b1 b2 b3 => exec_reset_addressBits { a0 := b0, a1 := b1, a2 := b2, a3 := b3 }

/-- Settles O33: the construction-time check has no value for another number of elements. -/
theorem resetWithMalformedAddressIsRefused : Obligations.ResetWithMalformedAddressIsRefused :=
  fun _ s hlen => exec_reset_of_malformed hlen s

/-- Settles O34: element by element, from what every event leaves alone. -/
theorem elementsChangeOnlyByTheirWriters : Obligations.ElementsChangeOnlyByTheirWriters := by
  intro i s t hnext
  have hstep : EventStep i s t := (exec_eq_next_iff i s t).mp hnext
  refine ⟨eventStep_cfg hstep, eventStep_inputs hstep, eventStep_addr hstep, eventStep_powered hstep,
    eventStep_speed hstep, exec_done_queue hnext, exec_request_batch hnext, fun hreq hst => ?_, ?_, ?_⟩
  · obtain rfl := exec_next_unique (exec_request_of_ne_idle hreq hst) hnext
    exact ⟨rfl, rfl⟩
  · rintro rfl
    exact exec_tick_of_not_over hnext
  · rintro ⟨word, tag, rfl⟩
    exact exec_next_unique hnext (exec_badcmd_eq word tag s)

/-- Settles O35: each way an event can go is one of the list; under the invariants the tick that expires
comes at `DTIMER = 1`. -/
theorem schedulerStateChangesOnlyAsListed : Obligations.SchedulerStateChangesOnlyAsListed := by
  intro i s t hinv hnext
  cases (exec_eq_next_iff i s t).mp hnext with
  | requestInIdle hreq hst => exact .inr (.inl ⟨hst, rfl, hreq⟩)
  | requestElsewhere | reservedWord | tickIgnored | tickCounts | strayAnswer => exact .inl rfl
  | tickExpires hi hst hover =>
    exact .inr (.inr (.inl ⟨hst, rfl, hi, (hinv.dtimer_le_one_iff hst).mp hover⟩))
  | lastAnswer out hi hst hq => exact .inr (.inr (.inr (.inl ⟨hst, rfl, by simp [hi], hq⟩)))
  | answerWithQueue out hi hst hq => exact .inr (.inr (.inr (.inr (.inl ⟨hst, rfl, by simp [hi], hq⟩))))
  | reset a hi => exact .inr (.inr (.inr (.inr (.inr ⟨rfl, by simp [hi, isReset]⟩))))

/-- Settles O38: a dropped event leaves the whole state, a failure what a completion leaves, and a malformed
RESET has no next state. -/
theorem raisedErrorIsTakenAndKeepsFanState : Obligations.RaisedErrorIsTakenAndKeepsFanState := by
  intro i s cause hraises
  obtain ⟨word, tag, rfl, rfl⟩ | ⟨out, rfl, hst, rfl⟩ | ⟨info, rfl, hst, rfl⟩ | ⟨bits, rfl, hlen, rfl⟩ :=
    raises_cases hraises
  · refine ⟨exec_badcmd_eq word tag s, fun t hnext => ?_⟩
    obtain rfl := exec_next_unique (exec_badcmd_eq word tag s) hnext
    simp
  · have hexec := exec_txdoneOf_of_not_transmitting out hst
    refine ⟨hexec, fun t hnext => ?_⟩
    obtain rfl := exec_next_unique hexec hnext
    simp
  · have hexec : exec (.txdoneErr info) s = .next (complete (.err info) s) :=
      exec_txdoneOf_of_transmitting (.err info) hst
    refine ⟨hexec, fun t hnext => ?_⟩
    obtain rfl := exec_next_unique hexec hnext
    obtain ⟨haddr, hpowered, hspeed, hqueue, -⟩ := complete_frame (.err info) s
    exact ⟨hpowered, hspeed, haddr, hqueue, by simp⟩
  · have hexec := exec_reset_of_malformed hlen s
    exact ⟨hexec, fun t hnext => by simp [hexec] at hnext⟩

/-- Settles O39: one completion for every outcome, which only the events tell apart. -/
theorem failureReachesEveryRequestOfTheBatch : Obligations.FailureReachesEveryRequestOfTheBatch := by
  intro e s hst
  obtain ⟨-, hpowered, hspeed, -, -, -, -, houts⟩ := complete_frame (.err e) s
  refine ⟨complete (.err e) s, complete .ok s, exec_txdoneOf_of_transmitting (.err e) hst,
    exec_txdoneOf_of_transmitting .ok hst, houts, fun tag htag => ?_, fun _ => rfl, hpowered, hspeed,
    complete_eq_with_outs (.err e) .ok s⟩
  rw [houts]
  exact List.mem_append_right _ (resolve_mem_resolveAll htag (.err e))

end Sys2Proof.Proofs

/-! Proofs that stepping through presented words is the run of their events (00_scope.md R10, 60_exceptions.md
R151): no event reads what is presented next, then the statements O54 and O55. -/

namespace Sys2Proof.Machine

/-- The words not yet taken change nothing about an event. -/
theorem eventStep_setInputs (words : List PortWord) {i : Instr} {s t : State} (h : EventStep i s t) :
    EventStep i (setInputs words s) (setInputs words t) := by
  cases h with
  | requestInIdle hreq hst => exact .requestInIdle (s := setInputs words s) hreq hst
  | requestElsewhere hreq hst => exact .requestElsewhere (s := setInputs words s) hreq hst
  | reservedWord word tag hi => exact .reservedWord word tag hi
  | tickIgnored hi hst => exact .tickIgnored hi hst
  | tickCounts hi hst hrun => exact .tickCounts (s := setInputs words s) hi hst hrun
  | tickExpires hi hst hover seq hseq =>
    exact .tickExpires (s := setInputs words s) hi hst hover seq hseq
  | lastAnswer out hi hst hq => exact .lastAnswer (s := setInputs words s) out hi hst hq
  | answerWithQueue out hi hst hq => exact .answerWithQueue (s := setInputs words s) out hi hst hq
  | strayAnswer out hi hst => exact .strayAnswer out hi hst
  | reset a hi => exact .reset (s := setInputs words s) a hi

theorem core_run_succ_of_next {s m : State} (hstep : step s = .next m) (k : Nat) :
    Host.Core.run core (k + 1) s = Host.Core.run core k m := by
  have hcore : core.step s = .next m := hstep
  simp only [Host.Core.run, hcore]

/-- One step for each of the words that decode to the events is the run of the events. -/
theorem core_run_of_decodes {words : List PortWord} {events : List Instr}
    (hwords : List.Forall₂ (fun w i => decode w = .ok i) words events) (s : State) :
    Host.Core.run core events.length (setInputs words s) = runEvents events (setInputs [] s) := by
  induction hwords generalizing s with
  | nil => rfl
  | @cons w i words events hdec _ ih =>
    obtain ⟨t, ht⟩ := exists_eventStep_of_wellFormed (wellFormed_of_decode hdec) s
    have hexec : ∀ rest, exec i (setInputs rest s) = .next (setInputs rest t) :=
      fun rest => exec_of_eventStep (eventStep_setInputs rest ht)
    have hstep : step (setInputs (w :: words) s) = .next (setInputs words t) :=
      (step_of_event rfl hdec).trans (hexec words)
    rw [List.length_cons, core_run_succ_of_next hstep, runEvents_cons_of_next (hexec []), ih]

theorem decodes_map_encode {events : List Instr} (hwf : ∀ i ∈ events, i.wellFormed = true) :
    List.Forall₂ (fun w i => decode w = .ok i) (events.map encode) events :=
  List.forall₂_map_left_iff.mpr (List.forall₂_same.mpr fun i hi => decode_encode (hwf i hi))

/-- A port that may present one word stands for the event that the word decodes to. -/
theorem decodes_optional {w : PortWord} {i : Instr} (p : Prop) [Decidable p] (hdec : decode w = .ok i) :
    List.Forall₂ (fun w i => decode w = .ok i) (if p then [w] else []) (if p then [i] else []) := by
  by_cases hp : p
  · simpa [hp] using hdec
  · simp [hp]

theorem setInputs_nil_of_inputs_nil {s : State} (hin : s.inputs = []) : setInputs [] s = s := by
  simp [setInputs, ← hin]

/-- With nothing waiting, presenting a cycle presents exactly its words. -/
theorem present_of_inputs_nil {s : State} (hin : s.inputs = []) (c : Cycle) :
    present c s = setInputs (cycleWords c) s := by
  simp [present, hin]

end Sys2Proof.Machine

/-! ### The statements -/

namespace Sys2Proof.Proofs

open Sys2Proof Sys2Proof.Machine

/-- Settles O54: every encoded word decodes to its event. -/
theorem steppingThroughWordsIsTheRun : Obligations.SteppingThroughWordsIsTheRun :=
  fun _ s hwf => core_run_of_decodes (decodes_map_encode hwf) s

/-- Settles O55: the words of a cycle decode, port by port and in the fixed order, to its events. -/
theorem oneCycleIsTakenInTheFixedOrder : Obligations.OneCycleIsTakenInTheFixedOrder := by
  refine ⟨fun c s i d hrst hin hi hd events hevents => ?_, fun c s hrst hin => ?_⟩
  · have hwords : List.Forall₂ (fun w i => decode w = .ok i) (cycleWords c) events := by
      rw [cycleWords_of_no_reset hrst, hevents]
      exact List.rel_append (List.rel_append (decodes_optional _ hi) (decodes_optional _ hd))
        (decodes_optional _ decode_tick_one)
    rw [present_of_inputs_nil hin, core_run_of_decodes hwords, setInputs_nil_of_inputs_nil hin]
  · have hwords : (present c s).inputs = [.rst 1#1 c.cfgAddr] := by
      simp [present_of_inputs_nil hin, cycleWords_of_reset hrst]
    rw [step_of_event hwords (decode_rst_one c.cfgAddr)]
    exact congrArg (exec _) (setInputs_nil_of_inputs_nil hin)

end Sys2Proof.Proofs

/-! Proofs about runs of the scheduler (42_scheduler.md sections 3 to 7, 60_exceptions.md section 3,
70_reset_and_hazards.md sections 1 and 5): first a window of requests and ticks, the ticks that end it and the
answer that follows, then the statements O46 to O52. -/

namespace Sys2Proof.Machine

/-! ### Ticks among the events -/

theorem tickCount_cons_tick (events : List Instr) : tickCount (.tick :: events) = tickCount events + 1 :=
  List.count_cons_self

theorem tickCount_cons_of_isRequest {i : Instr} (hreq : isRequest i = true) (events : List Instr) :
    tickCount (i :: events) = tickCount events :=
  List.count_cons_of_ne (by rintro rfl; simp [isRequest] at hreq)

@[simp] theorem tickCount_tickTimes (n : Nat) : tickCount (tickTimes n) = n := List.count_replicate_self

theorem tickTimes_succ (n : Nat) : tickTimes (n + 1) = tickTimes n ++ [.tick] := List.replicate_succ'

theorem eq_tick_of_mem_tickTimes {i : Instr} {n : Nat} (hi : i ∈ tickTimes n) : i = .tick :=
  List.eq_of_mem_replicate hi

theorem afterRequests_tickTimes (n : Nat) (s : State) : afterRequests (tickTimes n) s = s := by
  induction n with
  | zero => exact afterRequests_nil s
  | succ n ih =>
    have hcons : afterRequests (tickTimes (n + 1)) s = afterRequests (tickTimes n) (afterRequests [.tick] s) :=
      afterRequests_cons .tick (tickTimes n) s
    rw [hcons, afterRequests_of_not_isRequest rfl, ih]

/-! ### A window of requests and ticks -/

/-- The state in a window after some of its events: the requests have queued, the timer has counted. -/
def inWindow (events : List Instr) (s : State) : State :=
  { afterRequests events s with dtimer := s.dtimer - tickCount events }

theorem inWindow_cons_of_isRequest {i : Instr} (hreq : isRequest i = true) (events : List Instr) (s : State) :
    inWindow (i :: events) s = inWindow events (afterRequests [i] s) := by
  simp [inWindow, afterRequests_cons i events, tickCount_cons_of_isRequest hreq]

theorem inWindow_cons_tick (events : List Instr) (s : State) :
    inWindow (.tick :: events) s = inWindow events (countDown s) := by
  have hdrop : afterRequests [.tick] s = s := afterRequests_of_not_isRequest rfl s
  simp only [inWindow, afterRequests_cons .tick events, hdrop, tickCount_cons_tick, countDown_dtimer,
    Nat.sub_sub, Nat.add_comm 1]
  rfl

/-- While the window lasts, requests queue and ticks count (42_scheduler.md sections 3 and 4). -/
theorem runEvents_in_window {events : List Instr} {s : State} (hst : s.st = .debouncing)
    (hevents : ∀ i ∈ events, isRequest i = true ∨ i = .tick) (hticks : tickCount events < s.dtimer) :
    runEvents events s = .next (inWindow events s) := by
  induction events generalizing s with
  | nil => simp [inWindow, tickCount]
  | cons i events ih =>
    obtain ⟨hi, hrest⟩ := List.forall_mem_cons.mp hevents
    obtain hreq | rfl := hi
    · have hne : s.st ≠ .idle := by simp [hst]
      rw [runEvents_cons_of_next (exec_request_of_ne_idle hreq hne), inWindow_cons_of_isRequest hreq]
      exact ih hst hrest (by rwa [tickCount_cons_of_isRequest hreq] at hticks)
    · rw [tickCount_cons_tick] at hticks
      rw [runEvents_cons_of_next (exec_tick_of_running hst (by omega)), inWindow_cons_tick]
      exact ih hst hrest (by rw [countDown_dtimer]; omega)

/-! ### The ticks that end the window, and the answer -/

/-- As many ticks as `DTIMER` end the window with the transmission of the current FanState. -/
theorem runEvents_ticks_to_expire {s : State} (hst : s.st = .debouncing) (htimer : 1 ≤ s.dtimer) :
    ∃ seq, transmission s.cfg s.powered s.speed s.addr = some seq
      ∧ runEvents (tickTimes s.dtimer) s = .next (emit [.txstart seq] (snapshot s)) := by
  obtain ⟨n, hn⟩ : ∃ n, s.dtimer = n + 1 := ⟨s.dtimer - 1, by omega⟩
  have hcount : runEvents (tickTimes n) s = .next { s with dtimer := 1 } := by
    rw [runEvents_in_window hst (fun i hi => .inr (eq_tick_of_mem_tickTimes hi)) (by simp [hn]), inWindow,
      afterRequests_tickTimes, tickCount_tickTimes, hn, Nat.add_sub_cancel_left]
  obtain ⟨seq, hseq, hexec⟩ := exec_tick_of_over (s := { s with dtimer := 1 }) hst le_rfl
  refine ⟨seq, hseq, ?_⟩
  rw [hn, tickTimes_succ, runEvents_append_of_next hcount, runEvents_singleton, hexec]
  rfl

/-- The state after a whole window and its answer: Idle, with the queue resolved after one `TXSTART`. -/
def afterAnswer (seq : List Nat) (out : TxOutcome) (s : State) : State :=
  { s with dtimer := 0, st := .idle, queue := [], batch := [],
           outs := s.outs ++ [.txstart seq] ++ resolveAll s.queue out }

/-- The answer to a transmission that nothing has been requested since brings the block to Idle. -/
theorem exec_answer_after_expire (seq : List Nat) (out : TxOutcome) (s : State) :
    exec (txdoneOf out) (emit [.txstart seq] (snapshot s)) = .next (afterAnswer seq out s) :=
  exec_answer_of_queue_nil out rfl rfl

/-- A run into Debouncing, the ticks of its window, and an answer. -/
theorem runEvents_window_and_answer {events : List Instr} {s m : State} (hrun : runEvents events s = .next m)
    (hst : m.st = .debouncing) (htimer : 1 ≤ m.dtimer) (out : TxOutcome) :
    ∃ seq, transmission m.cfg m.powered m.speed m.addr = some seq
      ∧ runEvents (events ++ tickTimes m.dtimer) s = .next (emit [.txstart seq] (snapshot m))
      ∧ runEvents (events ++ tickTimes m.dtimer ++ [txdoneOf out]) s = .next (afterAnswer seq out m) := by
  obtain ⟨seq, hseq, hexpire⟩ := runEvents_ticks_to_expire hst htimer
  have hsent : runEvents (events ++ tickTimes m.dtimer) s = .next (emit [.txstart seq] (snapshot m)) :=
    (runEvents_append_of_next hrun _).trans hexpire
  refine ⟨seq, hseq, hsent, ?_⟩
  rw [runEvents_append_of_next hsent, runEvents_singleton, exec_answer_after_expire]

/-! ### Nothing but the queue grows while a transmission is in flight -/

theorem exec_in_transmitting {i : Instr} {s : State} (hst : s.st = .transmitting) (hdone : isDone i = false)
    (hreset : isReset i = false) : exec i s = .next (afterRequests [i] s) := by
  cases i with
  | setpwr | setspd => exact exec_request_of_ne_idle rfl (by simp [hst])
  | badcmd word tag => rw [afterRequests_of_not_isRequest rfl, exec_badcmd_eq]
  | tick => rw [afterRequests_of_not_isRequest rfl, exec_tick_of_ne_debouncing (by simp [hst])]
  | txdoneOk | txdoneErr => simp [isDone] at hdone
  | reset => simp [isReset] at hreset

theorem runEvents_in_transmitting {events : List Instr} {s : State} (hst : s.st = .transmitting)
    (hevents : ∀ i ∈ events, isDone i = false ∧ isReset i = false) :
    runEvents events s = .next (afterRequests events s) := by
  induction events generalizing s with
  | nil => simp
  | cons i events ih =>
    obtain ⟨⟨hdone, hreset⟩, hevents⟩ := List.forall_mem_cons.mp hevents
    rw [runEvents_cons_of_next (exec_in_transmitting hst hdone hreset), afterRequests_cons i events]
    exact ih hst hevents

/-! ### Requests and answers commute -/

theorem runEvents_pair_of_next {i j : Instr} {s m : State} (hexec : exec i s = .next m) :
    runEvents [i, j] s = exec j m := by
  rw [runEvents_cons_of_next hexec, runEvents_singleton]

/-- Where the answer is dropped, it is dropped before and after the request. -/
theorem request_done_commute_of_ne_transmitting {i : Instr} (hreq : isRequest i = true) (out : TxOutcome)
    {s : State} (hst : s.st ≠ .transmitting) :
    runEvents [i, txdoneOf out] s = runEvents [txdoneOf out, i] s := by
  rw [runEvents_pair_of_next (exec_txdoneOf_of_not_transmitting out hst)]
  by_cases hidle : s.st = .idle
  · rw [runEvents_pair_of_next (exec_request_of_idle hreq hidle), exec_request_of_idle hreq hidle]
    exact exec_txdoneOf_of_not_transmitting out (by simp)
  · rw [runEvents_pair_of_next (exec_request_of_ne_idle hreq hidle), exec_request_of_ne_idle hreq hidle]
    exact exec_txdoneOf_of_not_transmitting out hst

/-- While Transmitting either order ends in Debouncing with a fresh timer and the request queued. -/
theorem request_done_commute_of_transmitting {i : Instr} (hreq : isRequest i = true) (out : TxOutcome)
    {s : State} (hst : s.st = .transmitting) :
    runEvents [i, txdoneOf out] s = runEvents [txdoneOf out, i] s := by
  have hqueue : (afterRequests [i] s).queue ≠ [] :=
    List.append_ne_nil_of_right_ne_nil _ (requestTags_ne_nil_of_isRequest hreq)
  rw [runEvents_pair_of_next (exec_request_of_ne_idle hreq (by simp [hst])),
    exec_answer_of_queue_ne_nil out (s := afterRequests [i] s) hst hqueue]
  by_cases hq : s.queue = []
  · rw [runEvents_pair_of_next (exec_answer_of_queue_nil out hst hq), exec_request_of_idle hreq rfl]
    rfl
  · rw [runEvents_pair_of_next (exec_answer_of_queue_ne_nil out hst hq),
      exec_request_of_ne_idle hreq (by simp)]
    rfl

/-! ### Progress from each value of `ST` -/

/-- An answer, the ticks of a window and an answer bring the state to Idle with every request resolved. -/
def ResolvesWithin (s : State) (out out' : TxOutcome) : Prop :=
  ∃ (ticks : Nat) (t : State) (new : List OutEvent), ticks ≤ s.cfg.debounceTicks
    ∧ runEvents ([txdoneOf out] ++ tickTimes ticks ++ [txdoneOf out']) s = .next t
    ∧ t.st = .idle ∧ t.queue = [] ∧ t.batch = [] ∧ t.outs = s.outs ++ new
    ∧ resolvedTags new = s.batch ++ s.queue

theorem resolvesWithin_of_idle {s : State} (hinv : s.Inv) (hst : s.st = .idle) (out out' : TxOutcome) :
    ResolvesWithin s out out' := by
  obtain ⟨-, hqueue, hbatch, -⟩ := (State.inv_iff_of_idle hst).mp hinv
  have hdropped : ∀ out, exec (txdoneOf out) s = .next s :=
    fun out => exec_txdoneOf_of_not_transmitting out (by simp [hst])
  exact ⟨0, s, [], Nat.zero_le _, (runEvents_pair_of_next (hdropped out)).trans (hdropped out'), hst, hqueue,
    hbatch, (List.append_nil _).symm, by simp [hqueue, hbatch, resolvedTags]⟩

theorem resolvesWithin_of_debouncing {s : State} (hinv : s.Inv) (hst : s.st = .debouncing)
    (out out' : TxOutcome) : ResolvesWithin s out out' := by
  obtain ⟨-, -, hbatch, htimer, hle⟩ := (State.inv_iff_of_debouncing hst).mp hinv
  have hdropped : runEvents [txdoneOf out] s = .next s :=
    (runEvents_singleton _ s).trans (exec_txdoneOf_of_not_transmitting out (by simp [hst]))
  obtain ⟨seq, -, -, hrun⟩ := runEvents_window_and_answer hdropped hst htimer out'
  exact ⟨s.dtimer, afterAnswer seq out' s, .txstart seq :: resolveAll s.queue out', hle, hrun, rfl, rfl, rfl,
    by simp [afterAnswer], by simp [hbatch]⟩

theorem resolvesWithin_of_transmitting {s : State} (hinv : s.Inv) (hst : s.st = .transmitting)
    (out out' : TxOutcome) : ResolvesWithin s out out' := by
  obtain ⟨⟨-, -, hticks⟩, -, -⟩ := (State.inv_iff_of_transmitting hst).mp hinv
  by_cases hq : s.queue = []
  · have hrun : runEvents [txdoneOf out, txdoneOf out'] s
        = .next (goIdle (clearBatch (emit (resolveAll s.batch out) s))) :=
      (runEvents_pair_of_next (exec_answer_of_queue_nil out hst hq)).trans
        (exec_txdoneOf_of_not_transmitting out' (by simp))
    exact ⟨0, _, resolveAll s.batch out, Nat.zero_le _, hrun, rfl, hq, rfl, rfl, by simp [hq]⟩
  · have hanswered : runEvents [txdoneOf out] s
        = .next (startTimer (clearBatch (emit (resolveAll s.batch out) s))) :=
      (runEvents_singleton _ s).trans (exec_answer_of_queue_ne_nil out hst hq)
    obtain ⟨seq, -, -, hrun⟩ := runEvents_window_and_answer hanswered rfl hticks out'
    exact ⟨s.cfg.debounceTicks, _, resolveAll s.batch out ++ .txstart seq :: resolveAll s.queue out', le_rfl,
      hrun, rfl, rfl, rfl, by simp [afterAnswer], by simp⟩

/-! ### Bursts -/

/-- A burst from Idle that stays within its window waits there with the timer counted down. -/
theorem runEvents_burst {s : State} {first : Instr} {rest : List Instr} (hst : s.st = .idle)
    (hfirst : isRequest first = true) (hrest : ∀ i ∈ rest, isRequest i = true ∨ i = .tick)
    (hticks : tickCount rest < s.cfg.debounceTicks) :
    runEvents (first :: rest) s
      = .next { afterRequests (first :: rest) s with
                  st := .debouncing, dtimer := s.cfg.debounceTicks - tickCount rest } := by
  rw [runEvents_cons_of_next (exec_request_of_idle hfirst hst), afterRequests_cons first rest]
  exact runEvents_in_window rfl hrest hticks

/-- Requests during a transmission and its answer leave the block in a fresh window with all of them queued. -/
theorem runEvents_requests_and_answer {s : State} {requests : List Instr} (hst : s.st = .transmitting)
    (hreq : ∀ i ∈ requests, isRequest i = true) (hqueue : s.queue ++ requestTags requests ≠ [])
    (out : TxOutcome) :
    runEvents (requests ++ [txdoneOf out]) s
      = .next (startTimer (clearBatch (emit (resolveAll s.batch out) (afterRequests requests s)))) := by
  have hgrow : runEvents requests s = .next (afterRequests requests s) :=
    runEvents_in_transmitting hst fun i hi =>
      ⟨isDone_of_isRequest (hreq i hi), isReset_of_isRequest (hreq i hi)⟩
  rw [runEvents_append_of_next hgrow, runEvents_singleton]
  exact exec_answer_of_queue_ne_nil out (s := afterRequests requests s) hst hqueue

end Sys2Proof.Machine

/-! ### The statements -/

namespace Sys2Proof.Proofs

open Sys2Proof Sys2Proof.Machine

/-- Settles O46: `inWindow`, written out. -/
theorem requestsDoNotRestartTheTimer : Obligations.RequestsDoNotRestartTheTimer :=
  fun _ _ hst hevents hticks => runEvents_in_window hst hevents hticks

/-- Settles O50: `afterRequests`, written out. -/
theorem unansweredTransmissionOnlyGrowsTheQueue : Obligations.UnansweredTransmissionOnlyGrowsTheQueue :=
  fun _ _ hst hevents => runEvents_in_transmitting hst hevents

/-- Settles O51: the answer is dropped in both orders, or taken in both. -/
theorem requestAndCompletionCommute : Obligations.RequestAndCompletionCommute := by
  intro i out s hreq
  by_cases hst : s.st = .transmitting
  · exact request_done_commute_of_transmitting hreq out hst
  · exact request_done_commute_of_ne_transmitting hreq out hst

/-- Settles O52: the reset state is Idle, where an answer is dropped. -/
theorem resetDropsOutstandingRequests : Obligations.ResetDropsOutstandingRequests := by
  intro bits out s hlen
  obtain ⟨a, rfl⟩ := exists_addressBits_eq hlen
  have hreset := exec_reset_addressBits a s
  refine ⟨resetRegisters a s, (runEvents_singleton _ s).trans hreset, rfl, rfl, rfl, rfl, ?_⟩
  rw [runEvents_pair_of_next hreset]
  exact exec_txdoneOf_of_not_transmitting out (by simp)

/-- Settles O49: by the value of `ST`. -/
theorem answersAndTicksResolveEveryRequest : Obligations.AnswersAndTicksResolveEveryRequest := by
  intro s out out' hinv
  cases hst : s.st with
  | idle => exact resolvesWithin_of_idle hinv hst out out'
  | debouncing => exact resolvesWithin_of_debouncing hinv hst out out'
  | transmitting => exact resolvesWithin_of_transmitting hinv hst out out'

/-- Settles O47: the burst stays in the window that its first request opens, and the ticks left over end it.
Idle had nothing queued, so the batch is the burst's own. -/
theorem burstInOneWindowIsOneTransmission : Obligations.BurstInOneWindowIsOneTransmission := by
  intro s first rest out hinv hst hfirst hrest hticks
  obtain ⟨-, hqueue, hbatch, htimer⟩ := (State.inv_iff_of_idle hst).mp hinv
  obtain ⟨seq, hseq, hsent, hanswered⟩ := runEvents_window_and_answer
    (runEvents_burst hst hfirst hrest hticks) rfl (Nat.sub_pos_of_lt hticks) out
  refine ⟨seq, hseq, hsent.trans ?_, hanswered.trans ?_⟩
  · simp [emit, snapshot, afterRequests, hqueue, htimer]
  · simp [afterAnswer, afterRequests, resolveAll, hst, hqueue, hbatch, htimer]

/-- Settles O48: the first answer opens a fresh window with the waiting requests, which the ticks end. -/
theorem requestDuringTransmissionGetsASecondOne : Obligations.RequestDuringTransmissionGetsASecondOne := by
  intro s requests out out' hinv hst hreq hqueue
  obtain ⟨⟨-, -, hticks⟩, -, htimer⟩ := (State.inv_iff_of_transmitting hst).mp hinv
  obtain ⟨seq, hseq, hsent, hanswered⟩ := runEvents_window_and_answer
    (runEvents_requests_and_answer hst hreq hqueue out) rfl hticks out'
  refine ⟨seq, hseq, hsent.trans ?_, hanswered.trans ?_⟩
  · simp [emit, snapshot, startTimer, clearBatch, afterRequests, resolveAll, hst, htimer]
  · simp [afterAnswer, afterRequests, resolveAll, startTimer, clearBatch, emit, htimer]

end Sys2Proof.Proofs

/-! Proofs about the words of the Bit Sequence Encoder and the sequences of the Timing Encoder
(40_bit_encoder.md section 2, 41_timing_encoder.md sections 3 to 8 and 10): first what reads a Button and an
Address back, the elements of a frame and of its repetition, the word read back from a sequence and the time on
air, then the statements O9, O11, O15 to O22. -/

namespace Sys2Proof.Machine

/-! ### Reading a Button and an Address back from a word -/

theorem oneHot_injective {b b' : Button} (h : oneHot b = oneHot b') : b = b' := by
  have hpin : (oneHot b')[pin b]? = some true :=
    h ▸ (oneHot_getElem?_eq_some_true_iff b (pin_lt_btnBits b)).mpr rfl
  exact pin_injective ((oneHot_getElem?_eq_some_true_iff b' (pin_lt_btnBits b)).mp hpin)

theorem bencBits_injective {b b' : Button} {a a' : List Bool} (h : bencBits b a = bencBits b' a') :
    b = b' ∧ a = a' := by
  obtain ⟨hbutton, haddress⟩ := List.append_inj h (by rw [oneHot_length, oneHot_length])
  exact ⟨oneHot_injective hbutton, haddress⟩

theorem bencPin_pin (b : Button) (a : Address) : bencPin (pin b) a = .ok (benc b a) := by
  simp [bencPin]

theorem buttonOfPin_eq_none_of_reserved {k : Nat} (hk : k = 6 ∨ 8 ≤ k) : buttonOfPin k = none := by
  obtain rfl | hk := hk
  · rfl
  · obtain ⟨n, rfl⟩ := Nat.exists_eq_add_of_le' hk
    rfl

/-- The first 1 of a word is at the pin of its Button. -/
theorem idxOf_true_benc (b : Button) (a : Address) : (benc b a).idxOf true = pin b := by
  cases b <;> rfl

@[simp] theorem buttonOfWord_benc (b : Button) (a : Address) : buttonOfWord (benc b a) = some b := by
  rw [buttonOfWord, idxOf_true_benc, buttonOfPin_pin]

@[simp] theorem addressOfWord_benc (b : Button) (a : Address) : addressOfWord (benc b a) = some a := by
  rw [addressOfWord, benc, bencBits, List.drop_left' (oneHot_length b), addressOf_addressBits]

/-! ### The elements of a frame -/

theorem frame_eq_none_iff (c : Config) (w : BitWord) : frame c w = none ↔ w = [] := by
  cases w <;> simp [frame]

theorem tenc_eq_none_iff (c : Config) (w : BitWord) : tenc c w = none ↔ w = [] := by
  rw [← frame_eq_none_iff c w]
  cases h : frame c w <;> simp [tenc, h]

theorem tenc_eq_some_iff (c : Config) (w : BitWord) (seq : List Nat) :
    tenc c w = some seq ↔ ∃ f, frame c w = some f ∧ seq = rep c.repeatCount f := by
  cases h : frame c w <;> simp [tenc, h, eq_comm]

/-- The pair of bit `i` stands at `2 * i`. -/
theorem flatMap_sym_getElem? (c : Config) {w : BitWord} {i : Nat} {b : Bool} (hb : w[i]? = some b) {j : Nat}
    (hj : j < 2) : (w.flatMap (sym c))[2 * i + j]? = (sym c b)[j]? := by
  induction w generalizing i with
  | nil => simp at hb
  | cons b' w ih =>
    cases i with
    | zero =>
      obtain rfl : b' = b := by simpa using hb
      rw [List.flatMap_cons, Nat.mul_zero, Nat.zero_add, List.getElem?_append_left (by simpa using hj)]
    | succ i =>
      have hindex : 2 * (i + 1) + j - (sym c b').length = 2 * i + j := by rw [sym_length]; omega
      rw [List.flatMap_cons, List.getElem?_append_right (by rw [sym_length]; omega), hindex]
      exact ih (by simpa using hb)

section Frame

variable {c : Config} {w : BitWord} {f : List Nat}

theorem frame_eq_cons (h : frame c w = some f) : f = c.t :: (w.flatMap (sym c) ++ [20 * c.t]) := by
  obtain ⟨-, rfl⟩ := (frame_eq_some_iff c w f).mp h
  simp

theorem frame_getElem?_sync (h : frame c w = some f) : f[0]? = some c.t := by
  rw [frame_eq_cons h, List.getElem?_cons_zero]

theorem frame_getElem?_pair (h : frame c w = some f) {i : Nat} {b : Bool} (hb : w[i]? = some b) {j : Nat}
    (hj : j < 2) : f[1 + 2 * i + j]? = (sym c b)[j]? := by
  obtain ⟨hi, -⟩ := List.getElem?_eq_some_iff.mp hb
  have hindex : 1 + 2 * i + j = 2 * i + j + 1 := by omega
  rw [frame_eq_cons h, hindex, List.getElem?_cons_succ,
    List.getElem?_append_left (by rw [flatMap_sym_length]; omega), flatMap_sym_getElem? c hb hj]

theorem frame_getElem?_pilot (h : frame c w = some f) : f[2 * w.length + 1]? = some (20 * c.t) := by
  rw [frame_eq_cons h, List.getElem?_cons_succ, ← flatMap_sym_length c w, List.getElem?_concat_length]

/-- The first duration of a pair tells its bit. -/
theorem frame_getElem?_first (h : frame c w = some f) {i : Nat} {b : Bool} (hb : w[i]? = some b) :
    f[1 + 2 * i]? = some (if b then 2 * c.t else c.t) := by
  have hpair : f[1 + 2 * i]? = (sym c b)[0]? := frame_getElem?_pair h hb Nat.two_pos
  rw [hpair]
  cases b <;> simp

theorem frame_getElem?_second (h : frame c w = some f) {i : Nat} {b : Bool} (hb : w[i]? = some b) :
    f[2 + 2 * i]? = some (if b then c.t else 2 * c.t) := by
  have hindex : 2 + 2 * i = 1 + 2 * i + 1 := by omega
  rw [hindex, frame_getElem?_pair h hb Nat.one_lt_two]
  cases b <;> simp

theorem frame_mem_le (h : frame c w = some f) {d : Nat} (hd : d ∈ f) : d ≤ 20 * c.t := by
  rw [frame_eq_cons h, List.mem_cons, List.mem_append, List.mem_singleton, List.mem_flatMap] at hd
  obtain rfl | ⟨b, -, hd⟩ | rfl := hd
  · omega
  · cases b with
    | true => simp only [sym_true, List.mem_cons, List.not_mem_nil, or_false] at hd; omega
    | false => simp only [sym_false, List.mem_cons, List.not_mem_nil, or_false] at hd; omega
  · exact le_rfl

end Frame

/-! ### Repetition -/

theorem rep_succ (n : Nat) (s : List Nat) : rep (n + 1) s = s ++ rep n s := rfl

@[simp] theorem rep_length (n : Nat) (s : List Nat) : (rep n s).length = n * s.length := by
  simp [rep]

theorem rep_sum (n : Nat) (s : List Nat) : (rep n s).sum = n * s.sum := by
  simp [rep, List.sum_flatten]

theorem mem_of_mem_rep {n d : Nat} {s : List Nat} (hd : d ∈ rep n s) : d ∈ s := by
  obtain ⟨l, hl, hd⟩ := List.mem_flatten.mp hd
  exact List.eq_of_mem_replicate hl ▸ hd

/-- Element `k` of a repetition is element `k` mod the length of what is repeated. -/
theorem rep_getElem? {n k : Nat} {s : List Nat} (hk : k < n * s.length) :
    (rep n s)[k]? = s[k % s.length]? := by
  induction n generalizing k with
  | zero => simp at hk
  | succ n ih =>
    rw [rep_succ]
    by_cases hfirst : k < s.length
    · rw [List.getElem?_append_left hfirst, Nat.mod_eq_of_lt hfirst]
    · have hge : s.length ≤ k := Nat.le_of_not_lt hfirst
      have hrest : k - s.length < n * s.length := by rw [Nat.succ_mul] at hk; omega
      rw [List.getElem?_append_right hge, ih hrest, ← Nat.mod_eq_sub_mod hge]

section Transmission

variable {c : Config} {w : BitWord} {f seq : List Nat}

theorem tenc_eq_rep (hframe : frame c w = some f) (hseq : tenc c w = some seq) :
    seq = rep c.repeatCount f :=
  Option.some.inj (hseq.symm.trans (tenc_of_frame c hframe))

/-- Element `k` of each frame of a transmission is element `k` of the frame. -/
theorem tenc_getElem?_of_frame (hframe : frame c w = some f) (hseq : tenc c w = some seq) {r k : Nat}
    (hr : r < c.repeatCount) (hk : k < frameLen w.length) : seq[r * frameLen w.length + k]? = f[k]? := by
  have hlen := frame_length hframe
  have hbound : r * f.length + k < c.repeatCount * f.length :=
    calc r * f.length + k < r * f.length + f.length := by omega
      _ = (r + 1) * f.length := (Nat.succ_mul r f.length).symm
      _ ≤ c.repeatCount * f.length := Nat.mul_le_mul_right _ hr
  rw [← hlen] at hk ⊢
  rw [tenc_eq_rep hframe hseq, rep_getElem? hbound, Nat.mul_add_mod', Nat.mod_eq_of_lt hk]

/-- A transmission determines the word of its first frame (41_timing_encoder.md R99). -/
theorem wordOfSeq_tenc (hvalid : c.Valid) (hseq : tenc c w = some seq) : wordOfSeq c w.length seq = w := by
  obtain ⟨ht, hrepeat, -⟩ := hvalid
  obtain ⟨f, hframe, -⟩ := (tenc_eq_some_iff c w seq).mp hseq
  refine List.ext_getElem (by simp [wordOfSeq]) fun i hi hiw => ?_
  have hfirst : seq[1 + 2 * i]? = some (if w[i] then 2 * c.t else c.t) := by
    have helement := tenc_getElem?_of_frame hframe hseq (r := 0) (k := 1 + 2 * i) hrepeat
      (by unfold frameLen; omega)
    rw [Nat.zero_mul, Nat.zero_add] at helement
    rw [helement, frame_getElem?_first hframe (List.getElem?_eq_getElem hiw)]
  have hlong : c.t ≠ 2 * c.t := by omega
  cases hbit : w[i] <;> simp [wordOfSeq, hfirst, hbit, hlong]

end Transmission

/-! ### Time on air -/

theorem flatMap_sym_sum (c : Config) (w : BitWord) : (w.flatMap (sym c)).sum = 3 * w.length * c.t := by
  induction w with
  | nil => simp
  | cons b w ih =>
    rw [List.flatMap_cons, List.sum_append, sym_sum, ih, List.length_cons]
    ring

theorem airTime_frame {c : Config} {w : BitWord} {f : List Nat} (h : frame c w = some f) :
    airTime f = (3 * w.length + 21) * c.t := by
  rw [airTime, frame_eq_cons h, List.sum_cons, List.sum_append, flatMap_sym_sum, List.sum_singleton]
  ring

/-- Marks and spaces together are the time on air. -/
theorem markSpaceTime_sum (mark : Bool) (ds : List Nat) :
    (markSpaceTime mark ds).1 + (markSpaceTime mark ds).2 = airTime ds := by
  induction ds generalizing mark with
  | nil => rfl
  | cons d ds ih =>
    have hrest := ih (!mark)
    simp only [airTime, List.sum_cons] at hrest ⊢
    cases mark with
    | true => simp only [markSpaceTime, if_true]; omega
    | false => simp only [markSpaceTime, Bool.false_eq_true, if_false]; omega

/-- A pair after a mark adds its second duration to the marks. -/
theorem markSpaceTime_false_pair (d e : Nat) (ds : List Nat) :
    (markSpaceTime false (d :: e :: ds)).1 = e + (markSpaceTime false ds).1 := by
  simp [markSpaceTime]

/-- Each bit is marked for `2T`, or for `T` if it is 1. -/
theorem markSpaceTime_pairs (c : Config) (w : BitWord) (ds : List Nat) :
    (markSpaceTime false (w.flatMap (sym c) ++ ds)).1 + w.count true * c.t
      = 2 * w.length * c.t + (markSpaceTime false ds).1 := by
  induction w with
  | nil => simp
  | cons b w ih =>
    rw [List.length_cons, Nat.mul_succ, Nat.add_mul]
    cases b with
    | true =>
      rw [List.flatMap_cons, sym_true, List.count_cons_self, Nat.succ_mul (w.count true)]
      simp only [List.cons_append, List.nil_append, markSpaceTime_false_pair]
      omega
    | false =>
      rw [List.flatMap_cons, sym_false, List.count_cons_of_ne (by decide)]
      simp only [List.cons_append, List.nil_append, markSpaceTime_false_pair]
      omega

theorem markSpaceTime_frame {c : Config} {w : BitWord} {f : List Nat} (h : frame c w = some f) :
    (markSpaceTime true f).1 + w.count true * c.t = (1 + 2 * w.length) * c.t := by
  have hpairs := markSpaceTime_pairs c w [20 * c.t]
  have hpilot : (markSpaceTime false [20 * c.t]).1 = 0 := rfl
  have hsync : (markSpaceTime true f).1
      = c.t + (markSpaceTime false (w.flatMap (sym c) ++ [20 * c.t])).1 := by
    rw [frame_eq_cons h]; rfl
  rw [hsync, Nat.add_mul, Nat.one_mul]
  omega

/-! ### Format X -/

/-- The fields of a format X word, put together from the top. -/
theorem formatX_fields (last level : Bool) {d : Nat} (hd : d < 2 ^ 16) :
    ((BitVec.ofBool last ++ BitVec.ofBool level ++ BitVec.ofNat 16 d).extractLsb' 0 16).toNat = d
    ∧ (BitVec.ofBool last ++ BitVec.ofBool level ++ BitVec.ofNat 16 d).getLsbD 16 = level
    ∧ (BitVec.ofBool last ++ BitVec.ofBool level ++ BitVec.ofNat 16 d).getLsbD 17 = last := by
  refine ⟨?_, ?_, ?_⟩
  · rw [BitVec.extractLsb'_append_eq_right, BitVec.toNat_ofNat, Nat.mod_eq_of_lt hd]
  · rw [BitVec.getLsbD_append, BitVec.getLsbD_append]
    simp
  · rw [BitVec.getLsbD_append, BitVec.getLsbD_append]
    simp

theorem formatX_of_fits {seq : List Nat} {k d : Nat} (hk : seq[k]? = some d) (hd : d < 2 ^ 16) :
    formatX seq k
      = some (BitVec.ofBool (k + 1 == seq.length) ++ BitVec.ofBool (isMark k) ++ BitVec.ofNat 16 d) := by
  simp only [formatX, hk, if_pos hd]

theorem tenc_mem_le {c : Config} {w : BitWord} {seq : List Nat} (hseq : tenc c w = some seq) {d : Nat}
    (hd : d ∈ seq) : d ≤ 20 * c.t := by
  obtain ⟨f, hframe, rfl⟩ := (tenc_eq_some_iff c w seq).mp hseq
  exact frame_mem_le hframe (mem_of_mem_rep hd)

end Sys2Proof.Machine

/-! ### The statements -/

namespace Sys2Proof.Proofs

open Sys2Proof Sys2Proof.Machine

/-- Settles O9: the one-hot field has a fixed length, so the two parts of a word can be told apart. -/
theorem bencIsOneHotThenAddressAndInjective : Obligations.BencIsOneHotThenAddressAndInjective :=
  ⟨fun b a => ⟨bencBits_length b a,
    fun _ hi => (bencBits_getElem?_button b a hi).trans (oneHot_getElem? b hi),
    bencBits_getElem?_address b a⟩, fun _ _ _ _ => bencBits_injective⟩

/-- Settles O11: `bencPin` answers where `buttonOfPin` does. -/
theorem numericBencRefusesWhatIsNoButton : Obligations.NumericBencRefusesWhatIsNoButton :=
  ⟨bencPin_pin, fun _ _ hk => by rw [bencPin, buttonOfPin_eq_none_of_reserved hk]⟩

/-- Settles O16: `TENC` has a value where `FRAME` has. -/
theorem encodersHaveNoValueExactlyForTheEmptyWord : Obligations.EncodersHaveNoValueExactlyForTheEmptyWord :=
  fun c w => ⟨frame_eq_none_iff c w, tenc_eq_none_iff c w⟩

/-- Settles O15: the sync, the two durations of each pair, and the pilot. -/
theorem frameElementsAreSyncPairsPilot : Obligations.FrameElementsAreSyncPairsPilot := by
  intro c w hw
  have hframe := frame_of_ne_nil c hw
  exact ⟨_, hframe, frame_getElem?_sync hframe,
    fun _ _ hb => ⟨frame_getElem?_first hframe hb, frame_getElem?_second hframe hb⟩,
    frame_getElem?_pilot hframe⟩

/-- Settles O17: the elements of a repetition, at the length of a frame. -/
theorem transmissionIsTheFrameRepeated : Obligations.TransmissionIsTheFrameRepeated := by
  intro c w f seq hframe hseq
  have hlen : 2 * w.length + 2 = f.length := by rw [frame_length hframe, frameLen]; omega
  rw [tenc_eq_rep hframe hseq, hlen]
  exact ⟨rep_length _ f, fun _ => rep_getElem?⟩

/-- Settles O18: the first and the last element of the frame, in each of its copies. -/
theorem everyFrameBeginsWithSyncAndEndsWithPilot : Obligations.EveryFrameBeginsWithSyncAndEndsWithPilot := by
  intro c w seq hseq r hr
  obtain ⟨f, hframe, -⟩ := (tenc_eq_some_iff c w seq).mp hseq
  have helement : ∀ k < frameLen w.length, seq[r * frameLen w.length + k]? = f[k]? :=
    fun _ => tenc_getElem?_of_frame hframe hseq hr
  have hlen : frameLen w.length = 2 * w.length + 2 := by unfold frameLen; omega
  exact ⟨(helement 0 (by omega)).trans (frame_getElem?_sync hframe),
    (helement (2 * w.length + 1) (by omega)).trans (frame_getElem?_pilot hframe)⟩

/-- Settles O19: both words are the word that the sequence determines. -/
theorem tencIsInjectiveOnWordsOfOneLength : Obligations.TencIsInjectiveOnWordsOfOneLength := by
  intro c w v seq hvalid hlen hw hv
  rw [← wordOfSeq_tenc hvalid hw, hlen, wordOfSeq_tenc hvalid hv]

/-- Settles O20: the sequence determines the word, and the word its Button and Address. -/
theorem sequenceDeterminesButtonAndAddress : Obligations.SequenceDeterminesButtonAndAddress := by
  intro c b a seq hvalid hseq
  have hword : wordOfSeq c wordLen seq = benc b a := by
    rw [← benc_length b a, wordOfSeq_tenc hvalid hseq]
  exact ⟨by rw [buttonOfSeq, hword, buttonOfWord_benc], by rw [addressOfSeq, hword, addressOfWord_benc]⟩

/-- Settles O21: sums over the pairs of the bits, and over the copies of the frame. -/
theorem timeOnAirOfFrameAndTransmission : Obligations.TimeOnAirOfFrameAndTransmission := by
  intro c w f seq hframe hseq
  refine ⟨airTime_frame hframe, ?_, markSpaceTime_frame hframe, markSpaceTime_sum true f⟩
  rw [tenc_eq_rep hframe hseq, airTime, rep_sum, ← airTime, airTime_frame hframe]

/-- Settles O22: the fields of the word; no duration of a transmission exceeds the pilot, 65520 at
`T` = 3276. -/
theorem formatXWordsCarryDurationLevelAndLast : Obligations.FormatXWordsCarryDurationLevelAndLast := by
  refine ⟨fun seq k d hk hd => ?_, fun c w seq ht hseq k hk => ?_⟩
  · obtain ⟨hdur, hlevel, hlast⟩ := formatX_fields (k + 1 == seq.length) (isMark k) hd
    obtain ⟨hlt, -⟩ := List.getElem?_eq_some_iff.mp hk
    refine ⟨_, formatX_of_fits hk hd, hdur, ?_, ?_⟩
    · rw [hlevel, isMark, beq_iff_eq]
    · rw [hlast, beq_iff_eq]; omega
  · have hle : seq[k] ≤ 20 * c.t := tenc_mem_le hseq (List.getElem_mem hk)
    exact ⟨_, formatX_of_fits (List.getElem?_eq_getElem hk) (by omega)⟩

end Sys2Proof.Proofs

/-! Proofs about the raw code (41_timing_encoder.md R100): first the equations of the numeral and of the text
between the quotes, what characters they are made of, then the statement O23. -/

namespace Sys2Proof.Machine

/-! ### The numeral -/

/-- Fuel above the number never runs out. -/
theorem decimalAux_of_lt_fuel {fuel fuel' n : Nat} (hfuel : n < fuel) (hfuel' : n < fuel') (acc : List Char) :
    decimalAux fuel n acc = decimalAux fuel' n acc := by
  induction fuel generalizing fuel' n acc with
  | zero => omega
  | succ fuel ih =>
    obtain ⟨k, rfl⟩ : ∃ k, fuel' = k + 1 := ⟨fuel' - 1, by omega⟩
    by_cases hlast : n < 10
    · simp [decimalAux, hlast]
    · simp only [decimalAux, hlast, if_false]
      exact ih (by omega) (by omega) _

theorem decimal_of_lt {n : Nat} (hn : n < 10) : decimal n = [Char.ofNat (48 + n)] := by
  simp [decimal, decimalAux, hn, Nat.mod_eq_of_lt hn]

theorem decimal_of_ge {n : Nat} (hn : 10 ≤ n) :
    decimal n = decimal (n / 10) ++ [Char.ofNat (48 + n % 10)] := by
  rw [decimal, decimalAux, if_neg (Nat.not_lt.mpr hn), decimalAux_append, decimal,
    decimalAux_of_lt_fuel (Nat.div_lt_self (by omega) (by omega)) (Nat.lt_succ_self _)]

/-- What holds of one digit and is kept by one more digit behind holds of every numeral. -/
theorem decimal_induction {P : Nat → List Char → Prop} (hdigit : ∀ d < 10, P d [Char.ofNat (48 + d)])
    (hmore : ∀ n, 10 ≤ n → P (n / 10) (decimal (n / 10)) →
      P n (decimal (n / 10) ++ [Char.ofNat (48 + n % 10)])) (n : Nat) : P n (decimal n) := by
  induction n using Nat.strong_induction_on with
  | h n ih =>
    by_cases hlast : n < 10
    · rw [decimal_of_lt hlast]
      exact hdigit n hlast
    · have hn : 10 ≤ n := Nat.le_of_not_lt hlast
      rw [decimal_of_ge hn]
      exact hmore n hn (ih (n / 10) (Nat.div_lt_self (by omega) (by omega)))

theorem digit_toNat {d : Nat} (hd : d < 10) : (Char.ofNat (48 + d)).toNat = 48 + d := by
  revert d; decide

theorem decimal_ne_nil (n : Nat) : decimal n ≠ [] :=
  decimal_induction (P := fun _ l => l ≠ []) (fun _ _ => List.cons_ne_nil _ _)
    (fun _ _ _ => List.append_ne_nil_of_right_ne_nil _ (List.cons_ne_nil _ _)) n

/-- The number that a row of digits stands for. -/
def readDecimal (digits : List Char) : Nat :=
  digits.foldl (fun acc ch => 10 * acc + (ch.toNat - 48)) 0

@[simp] theorem readDecimal_decimal (n : Nat) : readDecimal (decimal n) = n := by
  refine decimal_induction (P := fun n l => readDecimal l = n) (fun d hd => ?_) (fun n _ ih => ?_) n
  · rw [readDecimal, List.foldl_cons, List.foldl_nil, digit_toNat hd]
    omega
  · have hsnoc : readDecimal (decimal (n / 10) ++ [Char.ofNat (48 + n % 10)])
        = 10 * readDecimal (decimal (n / 10)) + ((Char.ofNat (48 + n % 10)).toNat - 48) := by
      simp [readDecimal]
    rw [hsnoc, ih, digit_toNat (Nat.mod_lt n (by decide))]
    omega

theorem decimal_injective : Function.Injective decimal :=
  Function.LeftInverse.injective readDecimal_decimal

/-- The characters `0` to `9`. -/
def IsDecimalDigit (ch : Char) : Prop := 48 ≤ ch.toNat ∧ ch.toNat ≤ 57

theorem isDecimalDigit_digit {d : Nat} (hd : d < 10) : IsDecimalDigit (Char.ofNat (48 + d)) := by
  rw [IsDecimalDigit, digit_toNat hd]
  omega

theorem IsDecimalDigit.ne_of_toNat_lt {ch ch' : Char} (h : IsDecimalDigit ch) (hlt : ch'.toNat < 48) :
    ch ≠ ch' := by
  rintro rfl
  exact absurd h.1 (Nat.not_le.mpr hlt)

theorem isDecimalDigit_of_mem_decimal {n : Nat} : ∀ ch ∈ decimal n, IsDecimalDigit ch := by
  refine decimal_induction (P := fun _ l => ∀ ch ∈ l, IsDecimalDigit ch) (fun d hd ch hch => ?_)
    (fun n _ ih ch hch => ?_) n
  · rw [List.mem_singleton.mp hch]
    exact isDecimalDigit_digit hd
  · obtain hch | hch := List.mem_append.mp hch
    · exact ih ch hch
    · rw [List.mem_singleton.mp hch]
      exact isDecimalDigit_digit (Nat.mod_lt n (by decide))

/-- Only the numeral of 0 begins with `0`. -/
theorem eq_zero_of_decimal_head? {n : Nat} : (decimal n).head? = some '0' → n = 0 := by
  refine decimal_induction (P := fun n l => l.head? = some '0' → n = 0) (fun d hd hhead => ?_)
    (fun n hn ih hhead => ?_) n
  · have hzero : Char.ofNat (48 + d) = '0' := Option.some.inj hhead
    have hvalue : 48 + d = 48 := by rw [← digit_toNat hd, hzero]; rfl
    omega
  · rw [List.head?_append_of_ne_nil _ (decimal_ne_nil _)] at hhead
    have hzero := ih hhead
    omega

theorem space_not_mem_decimal (n : Nat) : ' ' ∉ decimal n :=
  fun h => (isDecimalDigit_of_mem_decimal _ h).ne_of_toNat_lt (by decide) rfl

/-! ### The text between the quotes -/

/-- The numerals with single spaces between them. -/
def rawBody (seq : List Nat) : List Char := List.intercalate [' '] (seq.map decimal)

theorem rawCodeChars_eq (seq : List Nat) :
    rawCodeChars seq = [Char.ofNat 34] ++ rawBody seq ++ [Char.ofNat 34] := rfl

@[simp] theorem rawBody_nil : rawBody [] = [] := rfl

@[simp] theorem rawBody_singleton (n : Nat) : rawBody [n] = decimal n := List.intercalate_singleton

theorem rawBody_cons_cons (n m : Nat) (seq : List Nat) :
    rawBody (n :: m :: seq) = decimal n ++ ' ' :: rawBody (m :: seq) := by
  simp [rawBody, List.intercalate_cons_cons]

/-- Cutting the text at the spaces gives the numerals back. -/
theorem splitOn_rawBody {seq : List Nat} (hseq : seq ≠ []) : (rawBody seq).splitOn ' ' = seq.map decimal := by
  refine List.splitOn_intercalate ' ' (fun l hl => ?_) (by simpa using hseq)
  obtain ⟨n, -, rfl⟩ := List.mem_map.mp hl
  exact space_not_mem_decimal n

theorem rawBody_ne_nil (n : Nat) (seq : List Nat) : rawBody (n :: seq) ≠ [] := by
  cases seq with
  | nil => rw [rawBody_singleton]; exact decimal_ne_nil n
  | cons m seq =>
    rw [rawBody_cons_cons]
    exact List.append_ne_nil_of_left_ne_nil (decimal_ne_nil n) _

theorem rawBody_injective {seq seq' : List Nat} (h : rawBody seq = rawBody seq') : seq = seq' := by
  match seq, seq', h with
  | [], [], _ => rfl
  | [], n :: ns, h => exact absurd h.symm (rawBody_ne_nil n ns)
  | n :: ns, [], h => exact absurd h (rawBody_ne_nil n ns)
  | n :: ns, m :: ms, h =>
    refine List.map_injective_iff.mpr decimal_injective ?_
    rw [← splitOn_rawBody (List.cons_ne_nil n ns), h, splitOn_rawBody (List.cons_ne_nil m ms)]

theorem eq_space_or_isDecimalDigit_of_mem_rawBody {seq : List Nat} {ch : Char} (hch : ch ∈ rawBody seq) :
    ch = ' ' ∨ IsDecimalDigit ch := by
  induction seq with
  | nil => simp at hch
  | cons n seq ih =>
    cases seq with
    | nil => exact .inr (isDecimalDigit_of_mem_decimal ch (rawBody_singleton n ▸ hch))
    | cons m seq =>
      rw [rawBody_cons_cons, List.mem_append, List.mem_cons] at hch
      obtain hch | hch | hch := hch
      · exact .inr (isDecimalDigit_of_mem_decimal ch hch)
      · exact .inl hch
      · exact ih hch

theorem quote_not_mem_rawBody (seq : List Nat) : Char.ofNat 34 ∉ rawBody seq := by
  intro h
  obtain hspace | hdigit := eq_space_or_isDecimalDigit_of_mem_rawBody h
  · exact absurd hspace (by decide)
  · exact hdigit.ne_of_toNat_lt (by decide) rfl

theorem rawBody_head?_ne_space (seq : List Nat) : (rawBody seq).head? ≠ some ' ' := by
  have hnumeral : ∀ n, (decimal n).head? ≠ some ' ' :=
    fun n h => space_not_mem_decimal n (List.mem_of_head? h)
  match seq with
  | [] => simp
  | [n] => rw [rawBody_singleton]; exact hnumeral n
  | n :: m :: seq =>
    rw [rawBody_cons_cons, List.head?_append_of_ne_nil _ (decimal_ne_nil n)]
    exact hnumeral n

theorem rawBody_getLast?_ne_space (seq : List Nat) : (rawBody seq).getLast? ≠ some ' ' := by
  induction seq with
  | nil => simp
  | cons n seq ih =>
    cases seq with
    | nil =>
      rw [rawBody_singleton]
      exact fun h => space_not_mem_decimal n (List.mem_of_getLast? h)
    | cons m seq =>
      rw [rawBody_cons_cons, List.getLast?_append_cons, List.getLast?_cons_of_ne_nil (rawBody_ne_nil m seq)]
      exact ih

theorem rawCodeChars_injective {seq seq' : List Nat} (h : rawCodeChars seq = rawCodeChars seq') :
    seq = seq' := by
  rw [rawCodeChars_eq, rawCodeChars_eq] at h
  exact rawBody_injective (List.append_cancel_left (List.append_cancel_right h))

end Sys2Proof.Machine

/-! ### The statement -/

namespace Sys2Proof.Proofs

open Sys2Proof Sys2Proof.Machine

/-- Settles O23: digits are neither spaces nor quotes, so the text can be cut at the spaces, and each numeral
reads back. -/
theorem rawCodeNumeralsReadBack : Obligations.RawCodeNumeralsReadBack := by
  refine ⟨fun n => ⟨decimal_ne_nil n, readDecimal_decimal n, isDecimalDigit_of_mem_decimal, fun hhead => ?_⟩,
    fun seq => ⟨String.toList_ofList, rawBody seq, rawCodeChars_eq seq, quote_not_mem_rawBody seq,
      rawBody_head?_ne_space seq, rawBody_getLast?_ne_space seq, ?_, splitOn_rawBody⟩,
    fun _ _ => rawCodeChars_injective⟩
  · rw [eq_zero_of_decimal_head? hhead]; rfl
  · rintro rfl; rfl

end Sys2Proof.Proofs

/-! Proofs about the Transmitter's reading of a reply (43_boundary.md R136): one equation for each row of the
decision list, then the statement O58. -/

namespace Sys2Proof.Machine

section Reply

variable {status : Nat} {statusText : String} {bodyStatus bodyMessage : Option String} {latency : Nat}

theorem outcomeOf_of_bad_status (hstatus : 400 ≤ status) :
    outcomeOf (.response status statusText bodyStatus bodyMessage latency)
      = .err { message := statusText, latency := latency } :=
  if_pos hstatus

theorem outcomeOf_of_success (hstatus : status < 400) :
    outcomeOf (.response status statusText (some "success") bodyMessage latency) = .ok := by
  rw [outcomeOf, if_neg (Nat.not_le.mpr hstatus), if_pos rfl]

theorem outcomeOf_of_no_marker (hstatus : status < 400) (hmarker : bodyStatus ≠ some "success") :
    outcomeOf (.response status statusText bodyStatus bodyMessage latency)
      = .err { message := bodyMessage.getD Config.absentMessage, latency := latency } := by
  rw [outcomeOf, if_neg (Nat.not_le.mpr hstatus), if_neg hmarker]

end Reply

theorem outcomeOf_eq_ok_iff (r : Reply) :
    outcomeOf r = .ok ↔
      ∃ status statusText bm latency, status < 400
        ∧ r = .response status statusText (some "success") bm latency := by
  constructor
  · intro hok
    cases r with
    | transportError text latency => simp [outcomeOf] at hok
    | response status statusText bs bm latency =>
      by_cases hstatus : 400 ≤ status
      · simp [outcomeOf_of_bad_status hstatus] at hok
      · have hlt : status < 400 := Nat.lt_of_not_le hstatus
        by_cases hmarker : bs = some "success"
        · exact ⟨status, statusText, bm, latency, hlt, by rw [hmarker]⟩
        · simp [outcomeOf_of_no_marker hlt hmarker] at hok
  · rintro ⟨status, statusText, bm, latency, hlt, rfl⟩
    exact outcomeOf_of_success hlt

end Sys2Proof.Machine

/-! ### The statement -/

namespace Sys2Proof.Proofs

open Sys2Proof Sys2Proof.Machine

/-- Settles O58: the rows of the decision list in their order. -/
theorem transmitterOutcomeFollowsTheDecisionList : Obligations.TransmitterOutcomeFollowsTheDecisionList :=
  ⟨fun _ _ => rfl, fun _ _ _ _ _ => outcomeOf_of_bad_status,
    fun _ _ _ _ _ => outcomeOf_of_no_marker,
    fun _ _ _ _ hstatus hmarker => ⟨_, outcomeOf_of_no_marker hstatus hmarker⟩, outcomeOf_eq_ok_iff⟩

end Sys2Proof.Proofs
